-- ==== Sys2Proof/Word.lean ====
section
/-! DEFINITION. The one word type of the Stage Link: the byte (02, R23 to R28). Counts, picture times and
sizes are natural numbers, signed milliframes and trims are integers: the manual adds and compares them as
numbers and gives each its range in its own rule. -/

namespace Sys2Proof

/-- One byte of a Stage Link cell (R23). -/
abbrev Byte := BitVec 8

/-- The byte that holds a number below 256. -/
abbrev byteOf (n : Nat) : Byte := BitVec.ofNat 8 n

end Sys2Proof
end

