-- ==== Sys2Proof/Syntax.lean ====
section
/-! DEFINITION. The commands of the block: one constructor for every row of spec/opcode_table.json, in the
table's order. A command is one whole and indivisible step of the part (95). The request kinds carry no
operands: their arguments stand in the request at the front of the management inbox or of the locate queue
(R131, R173), which CELL_ARRIVAL put there (log entry 2). -/

namespace Sys2Proof

/-- The two link ports: Port S on the stage side, Port P on the post side (00, section 3). -/
inductive Port where
  | stage | post
deriving DecidableEq, Repr

/-- The two tick lines (R19). -/
inductive Line where
  | a | b
deriving DecidableEq, Repr

/-- The commands of the Eltamo 540, one for each row of spec/opcode_table.json. -/
inductive Instr where
  /-- POWER_UP (R168). -/
  | powerUp
  /-- RESETN_ASSERT (R170). -/
  | resetnAssert
  /-- RESETN_RELEASE (R170). -/
  | resetnRelease
  /-- BOOT_RECORD_READ_END (R168). -/
  | bootRecordReadEnd
  /-- BOOT_RECORD_WRITE_END (R169). -/
  | bootRecordWriteEnd
  /-- REFIN_PULSE (R12), at the present MCLK cycle. -/
  | refinPulse
  /-- MISSING_TIMER_EXPIRY (R15). -/
  | missingTimerExpiry
  /-- FRAME_BOUNDARY (R2). -/
  | frameBoundary
  /-- MILLIFRAME_BOUNDARY (R3). -/
  | milliframeBoundary
  /-- TICK_DUE (R18). -/
  | tickDue
  /-- TICK_LINE_TOGGLE (R19) of one line. -/
  | tickLineToggle (line : Line)
  /-- TICKB_CHAINED_TOGGLE (R20). -/
  | tickbChainedToggle
  /-- CELL_HEADER_COMPLETE (R29): the fifth byte of a cell at a port. -/
  | cellHeaderComplete (port : Port)
  /-- CELL_ARRIVAL (R29): the last byte of a cell at a port; `wire` is the delivered run of bytes. -/
  | cellArrival (port : Port) (wire : List Byte)
  /-- CELL_SEND_START (R39). -/
  | cellSendStart (port : Port)
  /-- CELL_SEND_END (R39). -/
  | cellSendEnd (port : Port)
  /-- SILENCE_EXPIRY (R117) of the context of a slot. -/
  | silenceExpiry (slot : Nat)
  /-- CLAP_DEADLINE (R160) of the pending clap of a take. -/
  | clapDeadline (take : Nat)
  /-- TRANSIENT_DEADLINE (R161) of the held transient at a place of the held list, the oldest at 0. -/
  | transientDeadline (place : Nat)
  /-- VALIDATION_WALK_END (R60). -/
  | validationWalkEnd
  /-- RUN_BEGIN (R177). -/
  | runBegin
  /-- MGMT_HANDLING_END (R173). -/
  | mgmtHandlingEnd
  /-- LOCATE_SERVICE_END (R131). -/
  | locateServiceEnd
  /-- SET_ADDRESS (R180). -/
  | setAddress
  /-- IDENTIFY (R181). -/
  | identify
  /-- FORGET (R180). -/
  | forget
  /-- SAVE_ADDRESS (R169). -/
  | saveAddress
  /-- CLOCK_APPLY (R182). -/
  | clockApply
  /-- RUN (R176). -/
  | run
  /-- HALT (R178). -/
  | halt
  /-- CLEAR (R179). -/
  | clear
  /-- MAP (R48). -/
  | mapKey
  /-- UNMAP (R49). -/
  | unmapKey
  /-- READ_MAP (R50). -/
  | readMap
  /-- WRITE_SOURCE (R51). -/
  | writeSource
  /-- READ_SOURCE (R54). -/
  | readSource
  /-- WRITE_GROUP (R55). -/
  | writeGroup
  /-- READ_GROUP (R57). -/
  | readGroup
  /-- INJECT (R61). -/
  | inject
  /-- WRITE_PARAMS (R182). -/
  | writeParams
  /-- READ_PARAMS (R182). -/
  | readParams
  /-- OPEN (R104). -/
  | openSource
  /-- CLOSE (R106). -/
  | closeSource
  /-- REOPEN (R106). -/
  | reopenSource
  /-- READ_CONTEXT (R102). -/
  | readContext
  /-- READ_STATUS (R181). -/
  | readStatus
  /-- READ_EVENTS (R192). -/
  | readEvents
  /-- CLEAR_EVENTS (R191). -/
  | clearEvents
  /-- UNKNOWN_REQUEST (R172). -/
  | unknownRequest
  /-- LOCATE_TIME (R133). -/
  | locateTime
  /-- LOCATE_COUNT (R135). -/
  | locateCount
  /-- TAKE_QUERY (R137). -/
  | takeQuery
  /-- TAKE_FIND (R137). -/
  | takeFind
  /-- TAKE_AT (R137). -/
  | takeAt
  /-- POWER_LOST (R169). -/
  | powerLost
  /-- VALIDATION_WALK_CHECK (R60). -/
  | validationWalkCheck
  /-- TRANSMITTER_HOLD_OFF (R39). -/
  | transmitterHoldOff (port : Port)
  /-- TRANSMITTER_HOLD_OFF_END (R39). -/
  | transmitterHoldOffEnd (port : Port)
deriving DecidableEq, Repr

end Sys2Proof
end

