-- ==== Sys2Proof/Decode.lean ====
section
/-! DEFINITION. The commands that a word spells by the bits of spec/opcode_table.json. The table gives no row
any bits: the commands are events and requests, and requests reach the part as cells (R27), not as words. -/

namespace Sys2Proof

/-- The command of the row whose `nbits` bits are `w`: no row of the table has bits, so no word spells one. -/
def decodeTableWord (_nbits _w : Nat) : Option Instr := none

end Sys2Proof
end

