-- ==== Sys2Proof/Machine/Bytes.lean ====
section
/-! DEFINITION. Link byte order and the cell check: multi-byte fields most significant byte first (00,
section 5.9), signed fields in two's complement (R27), details held to their field's range (R187), and the
8-bit check of R28. -/

namespace Sys2Proof.Machine

/-- A number in `w` bytes, most significant byte first (00, section 5.9). -/
def beBytes : Nat → Nat → List Byte
  | 0, _ => []
  | w + 1, n => byteOf (n / 256 ^ w) :: beBytes w n

/-- The number that bytes carry, most significant byte first (00, section 5.9). -/
def beNat (bs : List Byte) : Nat := bs.foldl (fun acc b => acc * 256 + b.toNat) 0

/-- The signed number that `w` bytes carry in two's complement (R27). -/
def beInt (w : Nat) (bs : List Byte) : Int :=
  if beNat bs < 256 ^ w / 2 then (beNat bs : Int) else (beNat bs : Int) - 256 ^ w

/-- A number in `w` bytes, held to the field's largest value when too large (R187). -/
def satBytes (w n : Nat) : List Byte := beBytes w (min n (256 ^ w - 1))

/-- A signed number in `w` bytes in two's complement, held to the field's range (R187). -/
def signedBytes (w : Nat) (z : Int) : List Byte :=
  beBytes w ((max (-(256 ^ w / 2 : Int)) (min z (256 ^ w / 2 - 1))) % (256 ^ w : Int)).toNat

/-- A flag in one byte, off as 0 and on as 1 (R27). -/
def flagByte (b : Bool) : Byte := if b then 1 else 0

/-- The bit mask of a list of fields in `w` bytes, bit n naming field n (R27). -/
def maskBytes (w : Nat) (fields : List Nat) : List Byte :=
  beBytes w (fields.foldl (fun acc n => acc ||| 2 ^ n) 0)

/-- The byte of a cell or payload at an offset; 0 past its end. -/
def byteAt (bs : List Byte) (i : Nat) : Byte := bs.getD i 0

/-- The bytes of a field: `w` bytes from an offset. -/
def field (bs : List Byte) (at_ w : Nat) : List Byte := (bs.drop at_).take w

/-- An unsigned field of `w` bytes at an offset (R27). -/
def fieldNat (bs : List Byte) (at_ w : Nat) : Nat := beNat (field bs at_ w)

/-- Steps 2 to 4 of R28 for one bit. -/
def crcBit (reg : Byte) (b : Bool) : Byte :=
  if xor b reg.msb then (reg <<< 1) ^^^ 0x2F#8 else reg <<< 1

/-- One byte of the cell check, from its most significant bit down (R28). -/
def crcByte (reg : Byte) (b : Byte) : Byte :=
  [7, 6, 5, 4, 3, 2, 1, 0].foldl (fun r i => crcBit r (b.getLsbD i)) reg

/-- The cell check over the bytes before the trailer (R28). -/
def crc (bs : List Byte) : Byte := bs.foldl crcByte 0xFF#8

end Sys2Proof.Machine
end

