-- ==== Sys2Proof/Config.lean ====
section
/-! DEFINITION. What is fixed for the part: the capacities of its collections (00, section 5.10), the ends of
its number ranges, and the FREE VALUES: constants without a body, for what the manual leaves unstated. -/

namespace Sys2Proof.Config

/-- Places in one egress queue (R39). -/
abbrev egressCapacity : Nat := 32
/-- Requests the management inbox holds (R173). -/
abbrev inboxCapacity : Nat := 4
/-- Requests the locate queue holds (R130). -/
abbrev locateCapacity : Nat := 8
/-- Entries the Anchor Log holds (R124). -/
abbrev logCapacity : Nat := 512
/-- Takes the Take Table holds (R143). -/
abbrev takeCapacity : Nat := 64
/-- Rows of one take (R150). -/
abbrev rowCapacity : Nat := 8
/-- Claps the pending clap list holds (R143). -/
abbrev clapCapacity : Nat := 8
/-- Transients the held transient list holds (R143). -/
abbrev heldCapacity : Nat := 16

/-- The greatest picture time, 2^48 - 1 (R3). -/
abbrev maxPt : Nat := 281474976710655
/-- The number of source counts, 2^40 (R68). -/
abbrev countModulus : Nat := 1099511627776
/-- Half of `countModulus`, 2^39 (R68). -/
abbrev countHalf : Nat := 549755813888
/-- The greatest value of a 32-bit counter (R42, R99). -/
abbrev maxCounter : Nat := 4294967295
/-- Numbers that wrap as 32-bit values: open generation (R99) and anchor sequence (R124). -/
abbrev wrap32 : Nat := 4294967296
/-- The greatest count of an event class (R186). -/
abbrev maxEventCount : Nat := 65535
/-- The MCLK cycles within which the validation walk ends (R60). -/
abbrev walkLimit : Nat := 3200

/-- The values that a reply carries although the manual gives them no code (R27 codes only fields that
Tables 2-5, 3-2, 3-3 and 9-4 list): log entry 5. -/
inductive UnstatedCode where
  | deviceState | contextState | entryStatus | anchorReason | segmentOpen | takeStatus
  | faultLevel | bootStatus | staleFlag | trimmedFlag
deriving DecidableEq, Repr

/-- FREE VALUE (log entry 5): the byte that carries the `n`-th value of a field without a stated code. -/
opaque unstatedCode : UnstatedCode → Nat → Byte

/-- FREE VALUE (log entry 31): what READ_STATUS's general values carry, after those that R181 lists, of the states of
the 128 contexts, which R116 has show there, and of the captured clock values, which R182 has reported there; no rule
gives either a form there, and it may be nothing. -/
opaque unlistedStatus : List Nat → List Nat → List Byte

/-- FREE VALUE (log entry 6): the family byte of IDENTIFY's fixed designation (R181). -/
opaque family : Byte

/-- FREE VALUE (log entry 6): the design revision byte of IDENTIFY's fixed designation (R181). -/
opaque revision : Byte

/-- FREE VALUE (log entry 7): the rank of item `item` at the `draw`-th time the part takes several items
"one at a time, in any order" (R107, R163). Any order is the order of some ranks. -/
opaque freeOrder : Nat → Nat → Nat

end Sys2Proof.Config
end

