-- ==== Sys2Proof/Machine/Rates.lean ====
section
/-! DEFINITION. The house rate table (R1, Table 1-1), the drop-frame constants (Table 1-2) and the Run
Parameter record's field table (R182, Table 9-4): ranges and defaults by field code (R187). -/

namespace Sys2Proof.Machine

/-- One row of Table 1-1: the exact rate `hn / hd`, the nominal label rate, the frame period P in MCLK
cycles, whether drop-frame may be selected, and the label day, non-drop and drop-frame. -/
structure HouseRate where
  hn : Nat
  hd : Nat
  nominal : Nat
  period : Nat
  dropAllowed : Bool
  day : Nat
  dropDay : Nat
deriving DecidableEq, Repr

/-- The row of Table 1-1 that a captured rate code selects (R1). Captured codes are 0 to 8. -/
def houseRate (code : Nat) : HouseRate :=
  match code with
  | 1 => ⟨24000, 1000, 24, 1125000, false, 2073600, 2073600⟩
  | 2 => ⟨25000, 1000, 25, 1080000, false, 2160000, 2160000⟩
  | 3 => ⟨30000, 1001, 30, 900900, true, 2592000, 2589408⟩
  | 4 => ⟨30000, 1000, 30, 900000, false, 2592000, 2592000⟩
  | 5 => ⟨48000, 1000, 48, 562500, false, 4147200, 4147200⟩
  | 6 => ⟨50000, 1000, 50, 540000, false, 4320000, 4320000⟩
  | 7 => ⟨60000, 1001, 60, 450450, true, 5184000, 5178816⟩
  | 8 => ⟨60000, 1000, 60, 450000, false, 5184000, 5184000⟩
  | _ => ⟨24000, 1001, 24, 1126125, false, 2073600, 2073600⟩

/-- A row of Table 1-2: frames per ten-minute block B, labels dropped per ten minutes A, labels dropped per
minute K, frames per dropping minute C. -/
structure DropRate where
  block : Nat
  perTen : Nat
  perMinute : Nat
  minute : Nat
deriving DecidableEq, Repr

/-- The row of Table 1-2 for a rate code: 59.94 DF for code 7, else 29.97 DF (drop-frame is captured only
with codes 3 and 7, R1). -/
def dropRate (code : Nat) : DropRate :=
  if code = 7 then ⟨35964, 36, 4, 3596⟩ else ⟨17982, 18, 2, 1798⟩

/-- The number of fields of the Run Parameter record, coded 0 to 57 (R187). -/
abbrev fieldCount : Nat := 58

/-- The default of the field with a code, as Table 9-4 gives it and R27 codes it. -/
def defaultParam (code : Nat) : Nat :=
  if code = 3 then 1 else if code = 4 then 2700 else if code = 5 then 270
  else if code = 6 then 4 else if code = 7 then 3 else if code = 9 then 24
  else if code = 10 then 4 else if code = 15 then 1
  else if 17 ≤ code ∧ code ≤ 34 then 1
  else if code = 36 ∨ code = 47 ∨ code = 52 then 1
  else if code = 55 ∨ code = 56 then 12 else 0

/-- The least and greatest valid value of the field with a code (Table 9-4), for the fields whose validity
does not depend on another field. Drop-frame (1) and the epoch label (8) are judged further at capture. -/
def fieldRange (code : Nat) : Nat × Nat :=
  if code = 0 then (0, 8) else if code ≤ 2 then (0, 1) else if code = 3 then (1, 2)
  else if code = 4 then (1, 20000) else if code = 5 then (1, 10000)
  else if code ≤ 7 then (2, 16) else if code = 8 then (0, 4294967295)
  else if code = 9 then (0, 255) else if code = 10 then (0, 16)
  else if code ≤ 13 then (0, 1) else if code = 14 then (0, 254)
  else if code = 15 then (0, 1) else if code ≤ 34 then (0, 3)
  else if code ≤ 54 then (0, 1) else if code ≤ 56 then (1, 255) else (0, 2)

/-- A written value lies in its field's range (Table 9-4). -/
def fieldValid (code v : Nat) : Bool :=
  (fieldRange code).1 ≤ v && v ≤ (fieldRange code).2

end Sys2Proof.Machine
end

