-- ==== Sys2Proof/Machine/State.lean ====
section
/-! DEFINITION. The state of the Eltamo 540 as plain data, block by block (00, Figure 1), and the state right
after reset. -/

namespace Sys2Proof.Machine

/-! ### Names -/

/-- The device states (R167, Table 9-1). -/
inductive DeviceState where
  | boot | addressing | configuring | starting | running
deriving DecidableEq, Repr

/-- The clock states (R10). -/
inductive ClockState where
  | free | seeking | locked | holdover
deriving DecidableEq, Repr

/-- The source classes (R51). -/
inductive SourceClass where
  | camera | recorder | slate | plain
deriving DecidableEq, Repr

/-- The context states (R99). -/
inductive ContextState where
  | closed | acquiring | locked | drifting | lost
deriving DecidableEq, Repr

/-- The reasons of an anchor change (R124). -/
inductive AnchorReason where
  | opened | window | jump | slip | resume | clap
deriving DecidableEq, Repr

/-- The pairing statuses of a take row (R147). -/
inductive RowStatus where
  | fixed | pending | paired | unpaired | disagree
deriving DecidableEq, Repr

/-- How a full Take Table is met (R149). -/
inductive TakePolicy where
  | shift | keepFirst
deriving DecidableEq, Repr

/-- What damage to a Source Table entry does (R62). -/
inductive SourceAction where
  | keep | close
deriving DecidableEq, Repr

/-- What damage to a Stream Map entry does (R63). -/
inductive MapAction where
  | ignore | use
deriving DecidableEq, Repr

/-- Whether pairing corrects a recorder (R55). -/
inductive GroupPolicy where
  | step | report
deriving DecidableEq, Repr

/-- How TICKB is made (R20). -/
inductive LineMode where
  | separate | chained | complement
deriving DecidableEq, Repr

/-- The eighteen event classes in code order (Table 2-5, Table 10-1). -/
inductive EventClass where
  | refLock | refLost | refRate | sourceLost | sourceSlip | sourceJump | trimLimit | clapUnpaired
  | clapDisagree | transientUnpaired | slateOff | takeFull | tableDamage | linkDamage | egressDrop
  | setupDefaulted | unmappedSource | bootRecordBad
deriving DecidableEq, Repr

/-! ### Cells, requests and ports -/

/-- A cell as the run of bytes on the link: header, payload, stamp block if any, trailer (R23). -/
abbrev Cell := List Byte

/-- A request handed to the Management or the Locate Unit (R32): its kind code, tag, arguments, origin node
and arrival port, and whether it came as a broadcast (R33). -/
structure Request where
  kind : Nat
  tag : Byte
  args : List Byte
  origin : Byte
  port : Port
  broadcast : Bool
deriving DecidableEq, Repr

/-- The header of a cell partly received at a port (R29): its arrival PT, whether that PT was taken before the part
last entered STARTING (R82), and whether power-up or RESETn has discarded the cell. -/
structure HeaderTaken where
  pt : Nat
  beforeStarting : Bool
  discarded : Bool := false
deriving DecidableEq, Repr

/-- The mark of a cell that power-up or RESETn discards, the rest of which is still to come (R29, R170). -/
def HeaderTaken.discard : HeaderTaken := { pt := 0, beforeStarting := false, discarded := true }

/-- The eleven counters of a port (R42), 32-bit and saturating. -/
structure Counters where
  arrived : Nat := 0
  damaged : Nat := 0
  consumed : Nat := 0
  broadcastTaken : Nat := 0
  shortMarks : Nat := 0
  alreadyStamped : Nat := 0
  forwardedOut : Nat := 0
  overrun : Nat := 0
  replyDrop : Nat := 0
  tickDrop : Nat := 0
  noticeDrop : Nat := 0
deriving DecidableEq, Repr

/-- One link port: egress queue, oldest first, and the cell being sent (R39); sequence counter (R38); the
cell partly received (R29); the counters (R42); and whether the physical layer holds the transmitter off. -/
structure PortState where
  queue : List Cell := []
  sending : Option Cell := none
  heldOff : Bool := false
  sequence : Nat := 0
  header : Option HeaderTaken := none
  counters : Counters := {}
deriving DecidableEq, Repr

/-! ### House Clock, Reference Monitor, Tick Generator -/

/-- The captured clock parameters (R1). -/
structure ClockParams where
  rate : Nat := 0
  dropFrame : Bool := false
  externalRef : Bool := false
  divisor : Nat := 1
  tolerance : Nat := 2700
  window : Nat := 270
  lockCount : Nat := 4
  lossCount : Nat := 3
deriving DecidableEq, Repr

/-- The House Clock: MCLK cycles counted (the model's time base for R12 and R15), frame phase in cycles and
milliframe index k (R2), the period with which the frame in progress began (R2), PT (R3), the milliframe
boundaries still withheld by a hold (R16), the captured parameters (R1) and the clock state (R10). -/
structure HouseClock where
  now : Nat := 0
  phase : Nat := 0
  k : Nat := 0
  period : Nat := 1126125
  pt : Nat := 0
  hold : Nat := 0
  params : ClockParams := {}
  state : ClockState := .free
deriving DecidableEq, Repr

/-- The Reference Monitor (01, section 1.5): instant of the last accepted pulse, good and bad counts,
whether the missing timer runs (it counts from the last accepted pulse), the rate report flag and the
noise count. -/
structure RefMonitor where
  last : Option Nat := none
  good : Nat := 0
  bad : Nat := 0
  missing : Bool := false
  armed : Bool := true
  noise : Nat := 0
deriving DecidableEq, Repr

/-- The captured run class (R5, R18, R65), but for the take policy, which the Pairing Unit holds. -/
structure RunSettings where
  epochIndex : Nat := 0
  tickInterval : Nat := 24
  scrubRate : Nat := 4
  sourceAction : SourceAction := .keep
  mapAction : MapAction := .ignore
deriving DecidableEq, Repr

/-- The tick cell countdown, and whether a tick is due at the present instant (R18). -/
structure TickGen where
  countdown : Nat := 0
  due : Bool := false
deriving DecidableEq, Repr

/-- One tick line: its level, its divider counter (0 while a toggle is due), and whether its enable has
taken effect (R21). -/
structure LineState where
  high : Bool
  counter : Nat
  started : Bool
deriving DecidableEq, Repr

/-- TICKA, TICKB, the mode as last read (R20), and whether TICKB's counter was loaded by a start at the last
house frame boundary, where no toggle of TICKA decrements it (R21, R22). -/
structure TickLines where
  a : LineState := ⟨true, 12, false⟩
  b : LineState := ⟨false, 12, false⟩
  mode : LineMode := .separate
  bLoaded : Bool := false
deriving DecidableEq, Repr

/-! ### Table Store -/

/-- A table entry that is not EMPTY (R44): contents, whether the stored check value agrees with the value
recomputed from the contents (R58), and whether the status is DAMAGED (else VALID). -/
structure Stored (α : Type) where
  content : α
  checkGood : Bool
  damaged : Bool
deriving DecidableEq, Repr

/-- A source key (00, section 5.7). -/
structure Key where
  node : Nat
  stream : Nat
deriving DecidableEq, Repr

/-- A Stream Map entry (R46). -/
structure MapEntry where
  key : Key
  slot : Fin 128
deriving DecidableEq, Repr

/-- A Source Table entry (R51, Table 3-2). -/
structure SourceEntry where
  tag : List Byte
  cls : SourceClass
  rn : Nat
  rd : Nat
  stride : Nat
  latency : Nat
  silenceLimit : Nat
  gapLimit : Nat
  window : Nat
  gain : Nat
  lockTol : Nat
  slipTol : Nat
  trimLimit : Nat
  initialTrim : Int
  adjustLimit : Nat
  group : Nat
  autoOpen : Bool
deriving DecidableEq, Repr

/-- A Group Table entry (R55, Table 3-3). -/
structure GroupEntry where
  pairingWindow : Nat
  rollingLimit : Nat
  stepThreshold : Nat
  policy : GroupPolicy
  labelTol : Nat
deriving DecidableEq, Repr

/-- The validation walk of STARTING (R60): none, in progress at its next position since an MCLK cycle, or
ended. -/
inductive WalkState where
  | idle
  | checking (next startedAt : Nat)
  | ended
deriving DecidableEq, Repr

/-- The Table Store and the Table Scrubber's position (R46, R51, R55, R59). Groups 1 to 16 stand at 0 to 15. -/
structure Tables where
  map : Vector (Option (Stored MapEntry)) 256 := Vector.replicate 256 none
  source : Vector (Option (Stored SourceEntry)) 128 := Vector.replicate 128 none
  group : Vector (Option (Stored GroupEntry)) 16 := Vector.replicate 16 none
  scrubPos : Nat := 0
  walk : WalkState := .idle
deriving DecidableEq, Repr

/-! ### Source contexts and Anchor Log -/

/-- A context's anchor and the sequence number of its Anchor Log entry (R99). -/
structure Anchor where
  c0 : Nat
  pt0 : Nat
  seq : Nat
deriving DecidableEq, Repr

/-- A source context (R99, Table 6-1). -/
structure Context where
  state : ContextState := .closed
  work : Option SourceEntry := none
  gen : Nat := 0
  anchor : Option Anchor := none
  trim : Int := 0
  adjust : Int := 0
  lastCount : Nat := 0
  lastArrival : Nat := 0
  lastConverted : Nat := 0
  windowCount : Nat := 0
  windowSum : Int := 0
  silence : Nat := 0
  marks : Nat := 0
  missed : Nat := 0
  duplicates : Nat := 0
  slips : Nat := 0
  jumps : Nat := 0
  stale : Bool := false
  trimmed : Bool := false
deriving DecidableEq, Repr

/-- The end of a closed segment (R124). -/
structure SegmentEnd where
  count : Nat
  pt : Nat
deriving DecidableEq, Repr

/-- An Anchor Log entry (R124). -/
structure LogEntry where
  seq : Nat
  slot : Fin 128
  gen : Nat
  reason : AnchorReason
  c0 : Nat
  pt0 : Nat
  trim : Int
  adjust : Int
  rn : Nat
  rd : Nat
  ending : Option SegmentEnd
deriving DecidableEq, Repr

/-- The Anchor Log, oldest entry first, and its sequence counter (R124). -/
structure AnchorLog where
  entries : List LogEntry := []
  nextSeq : Nat := 0
deriving DecidableEq, Repr

/-- The Locate Unit: its queue, oldest first (R130), and the reply payloads fixed for the request in service
(R131). -/
structure LocateUnit where
  queue : List Request := []
  service : Option (List (List Byte)) := none
deriving DecidableEq, Repr

/-! ### Pairing Unit -/

/-- A take row (R147, Table 8-2). -/
structure TakeRow where
  slot : Fin 128
  role : SourceClass
  gen : Nat
  count : Option Nat
  status : RowStatus
  delta : Option Int
deriving DecidableEq, Repr

/-- A take record (R146, Table 8-1). `codeNumber` is the take number of the take code. -/
structure Take where
  number : Nat
  scene : List Byte
  codeNumber : Nat
  group : Nat
  slate : Fin 128
  clapPt : Nat
  labelDiff : Option Int
  isOpen : Bool
  omitted : Nat
  rows : List TakeRow
deriving DecidableEq, Repr

/-- A pending clap (R143). -/
structure PendingClap where
  take : Nat
  group : Nat
  clapPt : Nat
  deadline : Nat
deriving DecidableEq, Repr

/-- A held transient (R143). -/
structure HeldTransient where
  slot : Fin 128
  group : Nat
  count : Nat
  pt : Nat
  deadline : Nat
deriving DecidableEq, Repr

/-- The Pairing Unit's collections, each oldest first, the next take number and the captured take policy
(R143). -/
structure PairingUnit where
  takes : List Take := []
  claps : List PendingClap := []
  held : List HeldTransient := []
  nextTake : Nat := 1
  policy : TakePolicy := .shift
deriving DecidableEq, Repr

/-! ### Management Unit and Event Unit -/

/-- The boot record and its use (R168, R169): stored address, whether its check agrees, whether it is being
read or written (with the address being written), and whether it read good at the last boot. -/
structure BootRecord where
  address : Nat := 0
  checkGood : Bool := true
  reading : Bool := true
  writing : Option Nat := none
  readGood : Bool := false
deriving DecidableEq, Repr

/-- The Management Unit (R167, R173): device state, node address (none in BOOT), inbox, oldest first, with
the request in handling at its front, and the reply payloads fixed for it. -/
structure MgmtUnit where
  device : DeviceState := .boot
  address : Option Nat := none
  inbox : List Request := []
  handling : Option (List (List Byte)) := none
deriving DecidableEq, Repr

/-- One event class (R186): flag, count and first detail. -/
structure EventState where
  flag : Bool := false
  count : Nat := 0
  detail : Option (List Byte) := none
deriving DecidableEq, Repr

/-! ### The state -/

/-- Why a command could stop the machine. The spec gives every command an effect in every state, so no
meaning of this model ends in a fault, and the type has no constructor (safe). -/
inductive Fault where
deriving DecidableEq, Repr

/-- Why a command could have no meaning. -/
inductive Refusal where
  /-- Raised by an arm of `exec` whose command has no meaning yet; no arm is left so (safe). -/
  | notModelled (mnemonic : String)
deriving DecidableEq, Repr

/-- The state of the part: the lines and supply (`powered`, `resetLow`), the commands waiting (`pending`),
and the blocks of Figure 1. `paramRecord` is the Run Parameter record as written, by field code (R182);
`defaulted` the defaulted-field list (R183); `faultn` is set while FAULTn is asserted (R193); `freeDraws`
counts the draws of `Config.freeOrder` (the model's own). -/
structure State where
  powered : Bool := true
  resetLow : Bool := false
  pending : List Instr := []
  mgmt : MgmtUnit := {}
  boot : BootRecord := {}
  paramRecord : Vector (BitVec 32) fieldCount :=
    Vector.ofFn fun i : Fin fieldCount => BitVec.ofNat 32 (defaultParam i)
  defaulted : Vector Bool fieldCount := Vector.replicate fieldCount false
  clock : HouseClock := {}
  monitor : RefMonitor := {}
  settings : RunSettings := {}
  tick : TickGen := {}
  lines : TickLines := {}
  portS : PortState := {}
  portP : PortState := {}
  tables : Tables := {}
  contexts : Vector Context 128 := Vector.replicate 128 {}
  log : AnchorLog := {}
  locate : LocateUnit := {}
  pairing : PairingUnit := {}
  events : Vector EventState 18 := Vector.replicate 18 {}
  faultn : Bool := false
  freeDraws : Nat := 0
deriving DecidableEq, Repr

/-- The machine right after reset (R2, R168, R170, R194): power applied, RESETn high, the part in BOOT with
the boot record read begun, every block at its power-up value, the record as delivered. -/
def State.reset : State := {}

end Sys2Proof.Machine
end

