-- ==== Sys2Proof/Machine/Ops.lean ====
section
/-! DEFINITION. The named operations over the state: ports and their counters (R38, R39, R42), contexts
(R99), event classes (R186), Run Parameter fields in use (R184), and the order of items that the manual lets
the part take in any order. -/

namespace Sys2Proof.Machine

/-! ### Ports -/

/-- The other port (R37). -/
def otherPort : Port → Port
  | .stage => .post
  | .post => .stage

/-- A port's code in details and in the manager port field (R187, R27). -/
def portCode : Port → Byte
  | .stage => 0
  | .post => 1

/-- The state of a port. -/
def State.port (s : State) : Port → PortState
  | .stage => s.portS
  | .post => s.portP

/-- The state with one port replaced. -/
def State.setPort (s : State) (p : Port) (x : PortState) : State :=
  match p with
  | .stage => { s with portS := x }
  | .post => { s with portP := x }

/-- A 32-bit counter one higher, saturating (R42, R99). -/
def bump (n : Nat) : Nat := min (n + 1) Config.maxCounter

/-- The state with the counters of a port changed. -/
def State.countAt (s : State) (p : Port) (f : Counters → Counters) : State :=
  s.setPort p { s.port p with counters := f (s.port p).counters }

/-- The egress queue of a port has a free place (R40). -/
def State.hasRoom (s : State) (p : Port) : Bool :=
  decide ((s.port p).queue.length < Config.egressCapacity)

/-- A cell joins the back of a port's egress queue (R39). -/
def State.pushCell (s : State) (p : Port) (c : Cell) : State :=
  s.setPort p { s.port p with queue := (s.port p).queue ++ [c] }

/-- The part's own address as the origin of the cells it makes: 0 while it has none (R36). -/
def State.ownByte (s : State) : Byte := byteOf (s.mgmt.address.getD 0)

/-- A cell of the part's own: stamped flag, spare bit and stream 0, the payload's length, and the check of
R28 (R36). -/
def madeCell (dest origin : Byte) (kind : Nat) (sequence : Nat) (payload : List Byte) : Cell :=
  let body := [dest, origin, byteOf (kind * 16), byteOf sequence, byteOf payload.length] ++ payload
  body ++ [crc body]

/-- A cell of the part's own joins a port's egress queue and takes its sequence number (R36, R38). -/
def State.pushMade (s : State) (p : Port) (dest : Byte) (kind : Nat) (payload : List Byte) : State :=
  let x := s.port p
  s.setPort p { x with
    queue := x.queue ++ [madeCell dest s.ownByte kind x.sequence payload]
    sequence := (x.sequence + 1) % 256 }

/-! ### Contexts -/

/-- The context of a slot (R99). -/
def State.ctx (s : State) (i : Fin 128) : Context := s.contexts[i]

/-- The state with the context of a slot replaced. -/
def State.setCtx (s : State) (i : Fin 128) (c : Context) : State :=
  { s with contexts := s.contexts.set i c }

/-- A context is open in every state but CLOSED (R99). -/
def Context.isOpen (c : Context) : Bool := c.state != .closed

/-- The entry read while a context holds no working copy: no rule reads it of an open context (R103). -/
def blankEntry : SourceEntry :=
  { tag := [], cls := .plain, rn := 0, rd := 0, stride := 0, latency := 0, silenceLimit := 0
    gapLimit := 0, window := 0, gain := 0, lockTol := 0, slipTol := 0, trimLimit := 0
    initialTrim := 0, adjustLimit := 0, group := 0, autoOpen := false }

/-- The working copy of a context (R100). -/
def Context.entry (c : Context) : SourceEntry := c.work.getD blankEntry

/-- The effective latency: working latency plus latency adjust (R100). -/
def Context.effective (c : Context) : Int := c.entry.latency + c.adjust

/-- The slots in ascending order. -/
def allSlots : List (Fin 128) := List.finRange 128

/-! ### Run Parameter fields -/

/-- The value last written to the field with a code, as a number (R182). -/
def State.param (s : State) (code : Nat) : Nat :=
  if h : code < fieldCount then (s.paramRecord[code]).toNat else 0

/-- The value of a field that is taken into use: the one written, or the default if that is invalid (R183,
R184). -/
def State.inUse (s : State) (code : Nat) : Nat :=
  if fieldValid code (s.param code) then s.param code else defaultParam code

/-- The manager node in use (R184, R188). -/
def State.managerNode (s : State) : Nat := s.inUse 14

/-- The manager port in use (R184, R188). -/
def State.managerPort (s : State) : Port := if s.inUse 15 = 0 then .stage else .post

/-- The notice threshold in use (R188). -/
def State.threshold (s : State) : Nat := s.inUse 16

/-! ### Orders left open -/

/-- One item put before the first item of greater rank. -/
def insertRanked {α : Type} (rank : α → Nat) (x : α) : List α → List α
  | [] => [x]
  | y :: ys => if rank x ≤ rank y then x :: y :: ys else y :: insertRanked rank x ys

/-- The items in ascending rank. -/
def byRank {α : Type} (rank : α → Nat) : List α → List α
  | [] => []
  | x :: xs => insertRanked rank x (byRank rank xs)

/-- Items that the manual lets the part take one at a time, in any order (R107, R163): the order is a free
value, drawn afresh by the `draw`-th use (log entry 7). -/
def inAnyOrder {α : Type} (draw : Nat) (name : α → Nat) (l : List α) : List α :=
  byRank (fun x => Config.freeOrder draw (name x)) l

end Sys2Proof.Machine
end

