-- ==== Sys2Proof/Machine/Flags.lean ====
section
/-! DEFINITION. The Event Unit (10): flags, counts and first details (R186), the notice test and NOTICE cells
(R188), dropped notices (R189), FAULTn (R193), and the joining of an egress queue with its drops (R40). -/

namespace Sys2Proof.Machine

/-- The code of an event class (Table 2-5). -/
def eventIndex : EventClass → Fin 18
  | .refLock => 0 | .refLost => 1 | .refRate => 2 | .sourceLost => 3 | .sourceSlip => 4
  | .sourceJump => 5 | .trimLimit => 6 | .clapUnpaired => 7 | .clapDisagree => 8
  | .transientUnpaired => 9 | .slateOff => 10 | .takeFull => 11 | .tableDamage => 12
  | .linkDamage => 13 | .egressDrop => 14 | .setupDefaulted => 15 | .unmappedSource => 16
  | .bootRecordBad => 17

/-- The state of an event class (R186). -/
def State.event (s : State) (c : EventClass) : EventState := s.events[eventIndex c]

/-- The alarm attribute in use of the class with a code (R184, R193). -/
def State.alarm (s : State) (code : Nat) : Bool := s.inUse (35 + code) == 1

/-- The level in use of the class with a code (R184, R188). -/
def State.level (s : State) (code : Nat) : Nat := s.inUse (17 + code)

/-- Some event flag whose class has its alarm attribute set is set (R193). -/
def State.alarmRaised (s : State) : Bool :=
  (List.finRange 18).any fun i => s.events[i].flag && s.alarm i

/-- FAULTn re-evaluated (R193). -/
def State.evalFault (s : State) : State := { s with faultn := s.alarmRaised }

/-- The count of an event class one higher, saturating at 65,535 (R186). -/
def bumpEvent (n : Nat) : Nat := min (n + 1) Config.maxEventCount

/-- An event recorded in its class: the flag set, the count incremented, the detail kept as first detail if
the flag was clear (R186), and FAULTn re-evaluated (R193). -/
def recordEvent (c : EventClass) (detail : List Byte) (s : State) : State :=
  let e := s.event c
  let e' : EventState :=
    { flag := true, count := bumpEvent e.count, detail := if e.flag then e.detail else some detail }
  State.evalFault { s with events := s.events.set (eventIndex c) e' }

/-- A setting of the class's flag makes a notice (R188). -/
def noticeWanted (c : EventClass) (s : State) : Bool :=
  decide (s.managerNode ≠ 0) && decide (s.threshold < s.level (eventIndex c))

/-- The payload of a NOTICE: class, first detail (of TAKE_FULL only the take code, R187), PT (R25, R188). -/
def noticePayload (c : EventClass) (detail : List Byte) (s : State) : List Byte :=
  [byteOf (eventIndex c)] ++ (if c = .takeFull then detail.drop 1 else detail) ++
    beBytes 6 s.clock.pt

/-- The detail of EGRESS_DROP: port and kind of cell dropped, 0 forwarded, 1 reply, 2 tick, 3 notice
(R187). -/
def dropDetail (p : Port) (kind : Nat) : List Byte := [portCode p, byteOf kind]

/-- A notice that meets the manager port's full queue is counted (R40, R189). -/
def dropNotice (s : State) : State :=
  s.countAt s.managerPort fun x => { x with noticeDrop := bump x.noticeDrop }

/-- A dropped notice raises EGRESS_DROP; if that sets its flag, the notice it makes meets the same full queue
and is dropped in its turn, which only counts (R189). -/
def raiseNoticeDrop (s : State) : State :=
  let d := dropDetail s.managerPort 3
  let s1 := recordEvent .egressDrop d s
  if !(s.event .egressDrop).flag && noticeWanted .egressDrop s1 then
    recordEvent .egressDrop d (dropNotice s1)
  else s1

/-- A NOTICE cell joins the manager port's queue at once, or is dropped (R188, R189). -/
def sendNotice (c : EventClass) (detail : List Byte) (s : State) : State :=
  if s.hasRoom s.managerPort then
    s.pushMade s.managerPort (byteOf s.managerNode) 7 (noticePayload c detail s)
  else raiseNoticeDrop (dropNotice s)

/-- A block raises an event of a class with its detail (R186, R188). -/
def raise (c : EventClass) (detail : List Byte) (s : State) : State :=
  let s1 := recordEvent c detail s
  if !(s.event c).flag && noticeWanted c s1 then sendNotice c detail s1 else s1

/-! ### Joining an egress queue -/

/-- A forwarded cell joins the queue of its egress port, or is dropped as overrun (R37, R40, R42). -/
def joinForwarded (p : Port) (c : Cell) (s : State) : State :=
  if s.hasRoom p then
    (s.pushCell p c).countAt p fun x => { x with forwardedOut := bump x.forwardedOut }
  else
    raise .egressDrop (dropDetail p 0)
      (s.countAt p fun x => { x with overrun := bump x.overrun })

/-- A REPLY cell joins its port's queue, or is dropped (R36, R40). -/
def joinReply (p : Port) (dest : Byte) (payload : List Byte) (s : State) : State :=
  if s.hasRoom p then s.pushMade p dest 6 payload
  else
    raise .egressDrop (dropDetail p 1)
      (s.countAt p fun x => { x with replyDrop := bump x.replyDrop })

/-- A TICK cell joins a port's queue, or is dropped (R18, R36, R40). -/
def joinTick (p : Port) (payload : List Byte) (s : State) : State :=
  if s.hasRoom p then s.pushMade p 255 4 payload
  else
    raise .egressDrop (dropDetail p 2)
      (s.countAt p fun x => { x with tickDrop := bump x.tickDrop })

/-- The cells of one reply are offered to the queue one after the other (R138, R175). -/
def joinReplies (p : Port) (dest : Byte) (payloads : List (List Byte)) (s : State) : State :=
  payloads.foldl (fun s d => joinReply p dest d s) s

end Sys2Proof.Machine
end

