-- ==== Sys2Proof/Machine/Operands.lean ====
section
/-! DEFINITION. The forms in which operands reach the part: the fields of a cell (R23 to R25), the cell tests
(R23, R28), the request kinds and their arguments (R27, Table 2-7), and the reply statuses (Table 2-5). -/

namespace Sys2Proof.Machine

/-! ### Cells -/

/-- A cell's payload length field (Table 2-1). -/
def cellLength (w : Cell) : Nat := (byteAt w 4).toNat

/-- A cell's stamped flag (Table 2-1). -/
def cellStamped (w : Cell) : Bool := (byteAt w 2).getLsbD 3

/-- A cell's kind field (Table 2-1). -/
def cellKind (w : Cell) : Nat := (byteAt w 2).toNat / 16

/-- A cell's destination node (Table 2-1). -/
def cellDest (w : Cell) : Nat := (byteAt w 0).toNat

/-- A cell's origin node (Table 2-1). -/
def cellOrigin (w : Cell) : Byte := byteAt w 1

/-- A mark's source key: origin node and stream (R24). -/
def cellKey (w : Cell) : Key := ⟨(byteAt w 1).toNat, (byteAt w 2).toNat % 4⟩

/-- A cell's payload (R23). -/
def cellPayload (w : Cell) : List Byte := field w 5 (cellLength w)

/-- The delivered run of bytes has a well-formed cell's length (R23). -/
def lengthGood (w : Cell) : Bool :=
  decide (6 ≤ w.length) && decide (cellLength w ≤ 56) &&
    decide (w.length = 6 + cellLength w + if cellStamped w then 12 else 0)

/-- The trailer agrees with the check of the bytes before it (R28). -/
def crcGood (w : Cell) : Bool := w.getLast? == some (crc w.dropLast)

/-- A cell is good: not damaged (R30). -/
def cellGood (w : Cell) : Bool := lengthGood w && crcGood w

/-- The payload length that a mark kind needs; none for kinds that are not marks (R25). -/
def markNeed (kind : Nat) : Option Nat :=
  match kind with
  | 1 => some 5
  | 2 => some 17
  | 3 => some 5
  | _ => none

/-! ### Requests -/

/-- The reply statuses in code order (Table 2-5). -/
inductive ReplyStatus where
  | ok | clamped | busy | state | range | live | setFull | slotTaken | noEntry | noSource | future
  | expired | notCovered | stopped
deriving DecidableEq, Repr

/-- The code of a reply status (Table 2-5). -/
def replyCode : ReplyStatus → Byte
  | .ok => 0 | .clamped => 1 | .busy => 2 | .state => 3 | .range => 4 | .live => 5
  | .setFull => 6 | .slotTaken => 7 | .noEntry => 8 | .noSource => 9 | .future => 10
  | .expired => 11 | .notCovered => 12 | .stopped => 13

/-- A REPLY payload: kind and tag of the request, status, data (Table 2-2, R25). -/
def replyPayload (r : Request) (st : ReplyStatus) (data : List Byte) : List Byte :=
  [byteOf r.kind, r.tag, replyCode st] ++ data

/-- The request that a REQUEST cell carries, its payload holding a kind and a tag (R32). -/
def requestOf (port : Port) (broadcast : Bool) (w : Cell) : Request :=
  let d := cellPayload w
  { kind := (byteAt d 0).toNat, tag := byteAt d 1, args := d.drop 2, origin := cellOrigin w
    port := port, broadcast := broadcast }

/-- A request kind of the Locate Unit (R32, Table 2-7). -/
def isLocateKind (kind : Nat) : Bool := decide (26 ≤ kind) && decide (kind ≤ 30)

/-- A kind that a broadcast may carry to the part: CLOCK_APPLY, RUN or HALT (R33, Table 2-7). -/
def isBroadcastKind (kind : Nat) : Bool := kind == 5 || kind == 6 || kind == 7

/-- A kind code that names no request (R27). -/
def isUnknownKind (kind : Nat) : Bool := kind == 0 || decide (31 ≤ kind)

/-- The bytes of arguments that a kind needs (R27, Table 2-7). -/
def argNeed (kind : Nat) : Nat :=
  match kind with
  | 1 => 1 | 9 => 3 | 10 => 2 | 11 => 2 | 12 => 44 | 13 => 1 | 14 => 10 | 15 => 1 | 16 => 2
  | 17 => 5 | 19 => 1 | 20 => 1 | 21 => 1 | 22 => 1 | 24 => 3 | 25 => 3 | 26 => 8 | 27 => 7
  | 28 => 2 | 29 => 8 | 30 => 6 | _ => 0

/-- An unsigned argument of `w` bytes at an offset (R27). -/
def Request.arg (r : Request) (at_ w : Nat) : Nat := fieldNat r.args at_ w

/-- A key argument, if node and stream lie in their ranges (R27, R45, R132). -/
def Request.key (r : Request) (at_ : Nat) : Option Key :=
  let node := r.arg at_ 1
  let stream := r.arg (at_ + 1) 1
  if 1 ≤ node ∧ node ≤ 254 ∧ stream ≤ 3 then some ⟨node, stream⟩ else none

/-- The bytes of a key (R27). -/
def keyBytes (k : Key) : List Byte := [byteOf k.node, byteOf k.stream]

/-- A slot argument, if it lies in 0 to 127 (R45). -/
def Request.slot (r : Request) (at_ : Nat) : Option (Fin 128) :=
  if h : r.arg at_ 1 < 128 then some ⟨r.arg at_ 1, h⟩ else none

/-- The data of a refusal before the tests of a request's own rule: of a MAP its key as written (R48), of the
others none. A MAP too short to hold a key has none to carry (log entry 14). -/
def refusalData (r : Request) : List Byte :=
  if r.kind = 9 ∧ 2 ≤ r.args.length then field r.args 0 2 else []

/-- A reply made at once to a request that does not join a queue, or that ends STOPPED (R130, R139, R173). -/
def replyNow (r : Request) (st : ReplyStatus) (data : List Byte) (s : State) : State :=
  joinReply r.port r.origin (replyPayload r st data) s

/-- The data of a multi-cell reply divided among cells: whole fields while they fit, 51 bytes beside the part
header in the first cell and 52 in the others (R27). `room` is what the cell in hand still holds. -/
def packFields (room : Nat) (cell : List Byte) : List (List Byte) → List (List Byte)
  | [] => [cell]
  | f :: fs =>
    if f.length ≤ room then packFields (room - f.length) (cell ++ f) fs
    else cell :: packFields (52 - f.length) f fs

/-- The part headers put before the cells' data: part index, and in the first cell the number of cells
(R27). -/
def withPartHeaders (cells : List (List Byte)) : List (List Byte) :=
  cells.mapIdx fun i d => if i = 0 then [0, byteOf cells.length] ++ d else byteOf i :: d

/-- The data cells of a reply whose fields fill cell after cell (R27, R175). -/
def packReply (fields : List (List Byte)) : List (List Byte) :=
  withPartHeaders (packFields 51 [] fields)

end Sys2Proof.Machine
end

