-- ==== Sys2Proof/Machine/Convert.lean ====
section
/-! DEFINITION. The Conversion Engine (04): the signed count difference (R68), the one rounding (R70),
forward (R69, R71) and reverse conversion (R72 to R74), both exact until rounded. -/

namespace Sys2Proof.Machine

/-- The difference of two counts modulo 2^40, read as a signed number (R68). -/
def countDiff (c c0 : Nat) : Int :=
  let d := ((c : Int) - c0) % (Config.countModulus : Int)
  if d < Config.countHalf then d else d - Config.countModulus

/-- The exact quotient `num / den` of a positive `den`, rounded to the nearest integer, an exact half to the
greater (R70). -/
def roundHalfUp (num den : Int) : Int := (2 * num + den) / (2 * den)

/-- A picture time brought into 0 to 2^48 - 1 (R71, R115, R120). -/
def clampPt (z : Int) : Nat := (max 0 (min z Config.maxPt)).toNat

/-- The inputs both directions share (R66): house rate code, source rate, trim and anchor. -/
structure Conversion where
  rate : Nat
  rn : Nat
  rd : Nat
  trim : Int
  c0 : Nat
  pt0 : Nat
deriving DecidableEq, Repr

/-- The numerator of the ratio m (R67): RD x HN x 1000 x (10^9 + trim). -/
def ratioNum (v : Conversion) : Int :=
  v.rd * (houseRate v.rate).hn * 1000 * (1000000000 + v.trim)

/-- The denominator of the ratio m (R67): RN x HD x 10^9. -/
def ratioDen (v : Conversion) : Int := v.rn * (houseRate v.rate).hd * 1000000000

/-- The rounded picture-time difference of a count difference (R69, R70). -/
def ptDelta (v : Conversion) (dc : Int) : Int := roundHalfUp (dc * ratioNum v) (ratioDen v)

/-- The rounded count difference of a picture-time difference (R72, R70). -/
def countDelta (v : Conversion) (dh : Int) : Int := roundHalfUp (dh * ratioDen v) (ratioNum v)

/-- The raw picture time of a count (R69). -/
def rawPt (v : Conversion) (c : Nat) : Int := v.pt0 + ptDelta v (countDiff c v.c0)

/-- A conversion's value and its clamp indication (R71, R74). -/
structure Converted where
  value : Nat
  clamped : Bool
deriving DecidableEq, Repr

/-- Forward conversion (R69, R71). `held` says that the House Clock holds PT at its maximum. -/
def forward (v : Conversion) (held : Bool) (c : Nat) : Converted :=
  { value := clampPt (rawPt v c)
    clamped := held || decide (rawPt v c < 0) || decide ((Config.maxPt : Int) < rawPt v c) }

/-- Reverse conversion (R72 to R74): no value when the count difference is out of range. -/
def reverse (v : Conversion) (held : Bool) (h : Nat) : Option Converted :=
  let dc := countDelta v ((h : Int) - v.pt0)
  if dc < -(Config.countHalf : Int) ∨ (Config.countHalf : Int) ≤ dc then none
  else some { value := ((v.c0 + dc) % (Config.countModulus : Int)).toNat, clamped := held }

/-- The House Clock holds PT at its maximum (R3). -/
def ptHeld (s : State) : Bool := s.clock.pt == Config.maxPt

/-- The conversion inputs of a context: its working copy's rate, its trim and its anchor (R78). -/
def contextConversion (s : State) (c : Context) (a : Anchor) : Conversion :=
  { rate := s.clock.params.rate, rn := c.entry.rn, rd := c.entry.rd, trim := c.trim
    c0 := a.c0, pt0 := a.pt0 }

/-- The conversion inputs of an Anchor Log entry (R78, R80). -/
def entryConversion (s : State) (e : LogEntry) : Conversion :=
  { rate := s.clock.params.rate, rn := e.rn, rd := e.rd, trim := e.trim, c0 := e.c0, pt0 := e.pt0 }

end Sys2Proof.Machine
end

