-- ==== Sys2Proof/Machine/Anchors.lean ====
section
/-! DEFINITION. The Anchor Log (07, section 7.1) and the re-anchors (06, section 6.7): filling a segment's end
(R126), eviction (R127), append (R125), the re-anchor at arrival (R120) and the CLAP re-anchor (R122). -/

namespace Sys2Proof.Machine

/-- The end of a segment filled into the entry with a sequence number whose end is absent (R126). -/
def fillEntry (seq : Nat) (e : SegmentEnd) (x : LogEntry) : LogEntry :=
  if x.seq = seq ∧ x.ending = none then { x with ending := some e } else x

/-- The end of a context's open segment filled into the entry that carries its anchor (R125 step 1, R126). -/
def fillSegment (slot : Fin 128) (e : SegmentEnd) (s : State) : State :=
  match (s.ctx slot).anchor with
  | none => s
  | some a => { s with log := { s.log with entries := s.log.entries.map (fillEntry a.seq e) } }

/-- A full Log loses its oldest entry, and the context of its slot is marked history-trimmed (R125 step 2,
R127). -/
def evictOldest (s : State) : State :=
  match s.log.entries with
  | [] => s
  | x :: rest =>
    if s.log.entries.length < Config.logCapacity then s
    else { s.setCtx x.slot { s.ctx x.slot with trimmed := true } with
      log := { s.log with entries := rest } }

/-- The new entry of a context's anchor (R121, R125). -/
def newEntry (s : State) (slot : Fin 128) (reason : AnchorReason) (c0 pt0 : Nat) : LogEntry :=
  let c := s.ctx slot
  { seq := s.log.nextSeq, slot := slot, gen := c.gen, reason := reason, c0 := c0, pt0 := pt0
    trim := c.trim, adjust := c.adjust, rn := c.entry.rn, rd := c.entry.rd, ending := none }

/-- The new anchor appended to the Log with the next sequence number, which the context records (R125
step 3, R121). -/
def appendAnchor (slot : Fin 128) (reason : AnchorReason) (c0 pt0 : Nat) (s : State) : State :=
  { s.setCtx slot { s.ctx slot with anchor := some ⟨c0, pt0, s.log.nextSeq⟩ } with
    log := { entries := s.log.entries ++ [newEntry s slot reason c0 pt0]
             nextSeq := (s.log.nextSeq + 1) % Config.wrap32 } }

/-- An anchor change: the old segment's end filled if there is one, the oldest entry evicted if the Log is
full, the new entry appended (R125). The context's other fields have changed before. -/
def anchorChange (slot : Fin 128) (reason : AnchorReason) (c0 pt0 : Nat)
    (ending : Option SegmentEnd) (s : State) : State :=
  let filled := match ending with
    | some e => fillSegment slot e s
    | none => s
  appendAnchor slot reason c0 pt0 (evictOldest filled)

/-- The picture time an anchor set at an arrival gives its count: arrival PT less effective latency, held to
0 to 2^48 - 1 (R88, R92, R120). -/
def arrivalAnchorPt (c : Context) (arrival : Nat) : Nat := clampPt ((arrival : Int) - c.effective)

/-- A re-anchor at arrival for a PACE mark (R120). -/
def reanchorAtArrival (slot : Fin 128) (reason : AnchorReason) (count arrival : Nat) (s : State) :
    State :=
  let c := s.ctx slot
  let pt0 := arrivalAnchorPt c arrival
  let c' := { c with
    lastCount := count, lastArrival := arrival, lastConverted := pt0
    windowCount := 0, windowSum := 0, silence := c.entry.silenceLimit }
  anchorChange slot reason count pt0 (c.anchor.map fun _ => ⟨c.lastCount, c.lastConverted⟩)
    (s.setCtx slot c')

/-- The Tracking Unit refuses a CLAP re-anchor of sync difference `delta` (R122). -/
def clapReanchorRefused (c : Context) (delta : Int) : Bool :=
  !c.isOpen || decide ((c.entry.adjustLimit : Int) < |c.adjust - delta|)

/-- An accepted CLAP re-anchor ties the transient count to the clap PT and moves the latency adjust (R122). -/
def clapReanchor (slot : Fin 128) (count clapPt : Nat) (delta : Int) (s : State) : State :=
  let c := s.ctx slot
  let ending := c.anchor.map fun a =>
    SegmentEnd.mk count (forward (contextConversion s c a) (ptHeld s) count).value
  anchorChange slot .clap count clapPt ending
    (s.setCtx slot { c with adjust := c.adjust - delta, windowCount := 0, windowSum := 0 })

end Sys2Proof.Machine
end

