-- ==== Sys2Proof/Machine/Labels.lean ====
section
/-! DEFINITION. Timecode labels (01, section 1.3): index to label (R6, R7), label to index (R6, R8),
validity (R9), the label of a picture time (R5), and a label's four bytes (Table 2-4, R26). -/

namespace Sys2Proof.Machine

/-- A timecode label hh:mm:ss:ff (01, section 1.3). -/
structure Label where
  hh : Nat
  mm : Nat
  ss : Nat
  ff : Nat
deriving DecidableEq, Repr

/-- The label day length L for the captured rate and drop-frame setting (Table 1-1). -/
def labelDay (p : ClockParams) : Nat :=
  if p.dropFrame then (houseRate p.rate).dropDay else (houseRate p.rate).day

/-- Index to label at nominal rate `f`, non-drop (R6). -/
def plainLabel (f n : Nat) : Label :=
  { hh := n / f / 3600, mm := n / f / 60 % 60, ss := n / f % 60, ff := n % f }

/-- The adjusted index of a drop-frame rate (R7, steps 1 and 2). -/
def adjustedIndex (d : DropRate) (n : Nat) : Nat :=
  if n % d.block < d.perMinute then n + d.perTen * (n / d.block)
  else n + d.perTen * (n / d.block) + d.perMinute * ((n % d.block - d.perMinute) / d.minute)

/-- The label of a frame index under the captured parameters (R6, R7). -/
def labelOfIndex (p : ClockParams) (n : Nat) : Label :=
  plainLabel (houseRate p.rate).nominal
    (if p.dropFrame then adjustedIndex (dropRate p.rate) n else n)

/-- The nominal index of a label at nominal rate `f` (R6, R8). -/
def nominalIndex (f : Nat) (l : Label) : Nat := ((l.hh * 60 + l.mm) * 60 + l.ss) * f + l.ff

/-- The frame index of a valid label under the captured parameters (R6, R8). -/
def indexOfLabel (p : ClockParams) (l : Label) : Nat :=
  let n := nominalIndex (houseRate p.rate).nominal l
  let t := l.hh * 60 + l.mm
  if p.dropFrame then n - (dropRate p.rate).perMinute * (t - t / 10) else n

/-- A label is one of the labels that drop-frame skips (R9). -/
def droppedLabel (p : ClockParams) (l : Label) : Bool :=
  p.dropFrame && l.ss == 0 && l.mm % 10 != 0 && decide (l.ff < (dropRate p.rate).perMinute)

/-- A label is valid under the captured parameters (R9). -/
def labelValid (p : ClockParams) (l : Label) : Bool :=
  l.hh ≤ 23 && l.mm ≤ 59 && l.ss ≤ 59 && l.ff < (houseRate p.rate).nominal && !droppedLabel p l

/-- The label frame index of a picture time (R5). -/
def houseIndex (s : State) (h : Nat) : Nat :=
  (s.settings.epochIndex + h / 1000) % labelDay s.clock.params

/-- The label of a picture time (R5). -/
def houseLabel (s : State) (h : Nat) : Label := labelOfIndex s.clock.params (houseIndex s h)

/-- A label as four bytes with the drop-frame marker in bit 7 of the last (Table 2-4, R26). -/
def labelBytes (marker : Bool) (l : Label) : List Byte :=
  [byteOf l.hh, byteOf l.mm, byteOf l.ss, byteOf ((if marker then 128 else 0) + l.ff)]

/-- The bytes of the label of a picture time (R26). -/
def houseLabelBytes (s : State) (h : Nat) : List Byte :=
  labelBytes s.clock.params.dropFrame (houseLabel s h)

/-- The label that four bytes carry, the drop-frame marker disregarded (R26, R27). -/
def readLabel (bs : List Byte) : Label :=
  { hh := (byteAt bs 0).toNat, mm := (byteAt bs 1).toNat, ss := (byteAt bs 2).toNat,
    ff := (byteAt bs 3).toNat % 128 }

end Sys2Proof.Machine
end

