-- ==== Sys2Proof/Machine/Tables.lean ====
section
/-! DEFINITION. Reading and writing the Table Store (03): lookups (R47), entries by status (R44), writes with
a fresh check value (R44), and INJECT's spoiling of one (R61). -/

namespace Sys2Proof.Machine

/-- The Stream Map set of a key (R46). -/
def mapSet (k : Key) : Nat := (4 * k.node + k.stream) % 64

/-- The Stream Map position of a way of a key's set (R46). -/
def mapPosition (k : Key) (way : Fin 4) : Fin 256 :=
  ⟨4 * mapSet k + way, by unfold mapSet; omega⟩

/-- The four positions of a key's set, the lowest way first (R46). -/
def mapPositions (k : Key) : List (Fin 256) :=
  [mapPosition k 0, mapPosition k 1, mapPosition k 2, mapPosition k 3]

/-- The Stream Map entry at a position. -/
def State.mapAt (s : State) (i : Fin 256) : Option (Stored MapEntry) := s.tables.map[i]

/-- The state with the Stream Map entry at a position replaced. -/
def State.setMap (s : State) (i : Fin 256) (e : Option (Stored MapEntry)) : State :=
  { s with tables := { s.tables with map := s.tables.map.set i e } }

/-- The Source Table entry of a slot. -/
def State.sourceAt (s : State) (i : Fin 128) : Option (Stored SourceEntry) := s.tables.source[i]

/-- The state with the Source Table entry of a slot replaced. -/
def State.setSource (s : State) (i : Fin 128) (e : Option (Stored SourceEntry)) : State :=
  { s with tables := { s.tables with source := s.tables.source.set i e } }

/-- The Group Table place of a group 1 to 16; none for 0 and past the table (R55). -/
def groupPlace (g : Nat) : Option (Fin 16) :=
  if h : 1 ≤ g ∧ g ≤ 16 then some ⟨g - 1, by omega⟩ else none

/-- The Group Table entry of a group (R55, R56). -/
def State.groupAt (s : State) (g : Nat) : Option (Stored GroupEntry) :=
  match groupPlace g with
  | some i => s.tables.group[i]
  | none => none

/-- The state with the Group Table entry at a place replaced. -/
def State.setGroup (s : State) (i : Fin 16) (e : Option (Stored GroupEntry)) : State :=
  { s with tables := { s.tables with group := s.tables.group.set i e } }

/-- An entry written anew: VALID, with a fresh check value (R44). -/
def fresh {α : Type} (x : α) : Option (Stored α) := some { content := x, checkGood := true, damaged := false }

/-- An entry made DAMAGED, its contents kept (R44). -/
def damage {α : Type} (e : Stored α) : Option (Stored α) := some { e with damaged := true }

/-- An entry with its stored check value altered (R61); a DAMAGED entry is not changed. -/
def spoil {α : Type} (e : Stored α) : Option (Stored α) :=
  some { e with checkGood := e.checkGood && e.damaged }

/-- The content of an entry that is VALID (R44). -/
def validContent {α : Type} (e : Option (Stored α)) : Option α :=
  match e with
  | some x => if x.damaged then none else some x.content
  | none => none

/-- A check of the entry finds damage: it is VALID and its check values differ (R58). -/
def checkFails {α : Type} (e : Option (Stored α)) : Bool :=
  match e with
  | some x => !x.damaged && !x.checkGood
  | none => false

/-- The position of a key's entry, VALID or DAMAGED (R46, R48). -/
def State.keyPosition (s : State) (k : Key) : Option (Fin 256) :=
  (mapPositions k).find? fun i =>
    match s.mapAt i with
    | some e => e.content.key == k
    | none => false

/-- The lowest-numbered free way of a key's set (R48). -/
def State.freePosition (s : State) (k : Key) : Option (Fin 256) :=
  (mapPositions k).find? fun i => (s.mapAt i).isNone

/-- A Stream Map lookup under the captured map damage action (R47, R63). -/
def State.lookup (s : State) (k : Key) : Option (Fin 128) :=
  match s.keyPosition k with
  | none => none
  | some i =>
    match s.mapAt i with
    | none => none
    | some e =>
      if e.damaged && s.settings.mapAction == .ignore then none else some e.content.slot

/-- A slot is named by an entry, VALID or DAMAGED, whose key is another than `k` (R48). -/
def State.slotTaken (s : State) (k : Key) (slot : Fin 128) : Bool :=
  (List.finRange 256).any fun i =>
    match s.mapAt i with
    | some e => e.content.slot == slot && e.content.key != k
    | none => false

end Sys2Proof.Machine
end

