-- ==== Sys2Proof/Machine/Pairing.lean ====
section
/-! DEFINITION. The Pairing Unit (08): ending claps (R159), slot-closed notices (R162), group damage (R163),
pairing (R156 to R158), making a take (R149 to R153), held transients (R154, R155) and deadlines (R160,
R161). -/

namespace Sys2Proof.Machine

/-- The state with the Pairing Unit's state replaced. -/
def State.setPairing (s : State) (u : PairingUnit) : State := { s with pairing := u }

/-- A row still waits for its transient (R147). -/
def TakeRow.isPending (r : TakeRow) : Bool := r.status == .pending

/-- A take has a PENDING row (R152). -/
def Take.hasPending (t : Take) : Bool := t.rows.any TakeRow.isPending

/-- The take with a number (R148). -/
def State.takeNumbered (s : State) (n : Nat) : Option Take :=
  s.pairing.takes.find? fun t => t.number == n

/-- The state with the take of a number changed. -/
def State.modTake (s : State) (n : Nat) (f : Take → Take) : State :=
  s.setPairing { s.pairing with
    takes := s.pairing.takes.map fun t => if t.number = n then f t else t }

/-! ### Claps that end (R159) -/

/-- A PENDING row made UNPAIRED (R159). -/
def TakeRow.unpair (r : TakeRow) : TakeRow := if r.isPending then { r with status := .unpaired } else r

/-- A take whose clap has ended: every PENDING row UNPAIRED, the take CLOSED (R159). -/
def Take.ended (t : Take) : Take := { t with rows := t.rows.map TakeRow.unpair, isOpen := false }

/-- The number of UNPAIRED rows of a take (R159). -/
def Take.unpairedRows (t : Take) : Nat := t.rows.countP fun r => r.status == .unpaired

/-- A pending clap leaves the list. -/
def removeClap (n : Nat) (s : State) : State :=
  s.setPairing { s.pairing with claps := s.pairing.claps.filter fun c => c.take != n }

/-- The pending clap of a take ends: its PENDING rows turn UNPAIRED, the take is CLOSED, the clap leaves the
list, and one CLAP_UNPAIRED is raised with the UNPAIRED rows the take then holds (R159). -/
def endClap (n : Nat) (s : State) : State :=
  let rows := match s.takeNumbered n with
    | some t => t.ended.unpairedRows
    | none => 0
  raise .clapUnpaired (beBytes 2 n ++ satBytes 1 rows) (removeClap n (s.modTake n Take.ended))

/-- Several pending claps end one at a time, in any order (R107, R163). -/
def endClaps (ns : List Nat) (s : State) : State :=
  (inAnyOrder s.freeDraws id ns).foldl (fun s n => endClap n s)
    { s with freeDraws := s.freeDraws + 1 }

/-! ### Slot-closed notices, group damage, HALT -/

/-- A row is PENDING for an opening of a slot (R162). -/
def TakeRow.pendingFor (slot : Fin 128) (gen : Nat) (r : TakeRow) : Bool :=
  r.isPending && r.slot == slot && r.gen == gen

/-- An OPEN take with its PENDING rows of an opening made UNPAIRED (R162, step 1). -/
def Take.slotClosed (slot : Fin 128) (gen : Nat) (t : Take) : Take :=
  if t.isOpen then
    { t with rows := t.rows.map fun r => if r.pendingFor slot gen then r.unpair else r }
  else t

/-- The takes that a slot-closed notice leaves with no PENDING row (R162, step 1). -/
def takesEmptied (slot : Fin 128) (gen : Nat) (s : State) : List Nat :=
  (s.pairing.takes.filter fun t =>
    t.isOpen && t.rows.any (TakeRow.pendingFor slot gen) && !(t.slotClosed slot gen).hasPending).map
    Take.number

/-- The Pairing Unit's work at a slot-closed notice (R162). -/
def slotClosed (slot : Fin 128) (gen : Nat) (s : State) : State :=
  let emptied := takesEmptied slot gen s
  let s1 := s.setPairing { s.pairing with takes := s.pairing.takes.map (Take.slotClosed slot gen) }
  let s2 := endClaps emptied s1
  s2.setPairing { s2.pairing with held := s2.pairing.held.filter fun h => h.slot != slot }

/-- Every pending clap of a damaged group ends (R163). -/
def groupDamaged (g : Nat) (s : State) : State :=
  endClaps ((s.pairing.claps.filter fun c => c.group == g).map PendingClap.take) s

/-- The Pairing Unit's own HALT work: remaining claps end, remaining transients are discarded (R164). -/
def pairingHalt (s : State) : State :=
  let s1 := endClaps (s.pairing.claps.map PendingClap.take) s
  s1.setPairing { s1.pairing with held := [] }

/-! ### Pairing a row (R156 to R158) -/

/-- The rows of a take with the PENDING row of a slot resolved. -/
def Take.resolve (t : Take) (slot : Fin 128) (count : Nat) (delta : Int) (status : RowStatus) : Take :=
  { t with rows := t.rows.map fun r =>
      if r.slot = slot ∧ r.isPending then
        { r with count := some count, delta := some delta, status := status }
      else r }

/-- A take left with no PENDING row by a pairing is CLOSED and its clap leaves the list, without an event
(R158). -/
def closeIfResolved (n : Nat) (s : State) : State :=
  match s.takeNumbered n with
  | some t =>
    if t.hasPending then s else removeClap n (s.modTake n fun t => { t with isOpen := false })
  | none => s

/-- Pairing leads to a CLAP re-anchor under the group's entry as it stands (R156). -/
def stepApplies (s : State) (g : Nat) (delta : Int) : Bool :=
  match s.groupAt g with
  | some e => e.content.policy == .step && decide ((e.content.stepThreshold : Int) ≤ |delta|)
  | none => false

/-- The PENDING row of a slot in a take is paired with a transient (R156, R157, R158). -/
def pairRow (t : Take) (slot : Fin 128) (count pt : Nat) (s : State) : State :=
  let delta : Int := (t.clapPt : Int) - pt
  let s1 :=
    if stepApplies s t.group delta then
      if clapReanchorRefused (s.ctx slot) delta then
        raise .clapDisagree (beBytes 2 t.number ++ [byteOf slot] ++ signedBytes 4 delta)
          (s.modTake t.number fun t => t.resolve slot count delta .disagree)
      else
        clapReanchor slot count t.clapPt delta
          (s.modTake t.number fun t => t.resolve slot count delta .paired)
    else s.modTake t.number fun t => t.resolve slot count delta .paired
  closeIfResolved t.number s1

/-! ### Choosing the nearest (R153, R154) -/

/-- The item of smallest distance, the first of equals (R153, R154). -/
def nearest {α : Type} (dist : α → Nat) : List α → Option α
  | [] => none
  | x :: xs =>
    match nearest dist xs with
    | none => some x
    | some y => if dist x ≤ dist y then some x else some y

/-- The magnitude of the difference of two picture times. -/
def ptDistance (a b : Nat) : Nat := (a - b) + (b - a)

/-- The pairing window of a group's entry as it stands (R56). -/
def pairingWindow (s : State) (g : Nat) : Nat :=
  match s.groupAt g with
  | some e => e.content.pairingWindow
  | none => 0

/-- A deadline: a picture time plus the pairing window, lowered to 2^48 - 1 (R152, R155). -/
def deadlineOf (s : State) (g pt : Nat) : Nat := min (pt + pairingWindow s g) Config.maxPt

/-! ### Making a take (R149 to R153) -/

/-- What a CLAP hands to the Pairing Unit (R93). -/
structure ClapMark where
  slot : Fin 128
  pt : Nat
  arrival : Nat
  label : Label
  scene : List Byte
  codeNumber : Nat
deriving DecidableEq, Repr

/-- The Take Table is full (R149). -/
def tableFull (s : State) : Bool := decide (Config.takeCapacity ≤ s.pairing.takes.length)

/-- SHIFT: the oldest take of a full table is removed, its pending clap ended first if it is OPEN (R149). -/
def shiftTakes (s : State) : State :=
  match s.pairing.takes with
  | [] => s
  | t :: _ =>
    let s1 := if t.isOpen then endClap t.number s else s
    s1.setPairing { s1.pairing with takes := s1.pairing.takes.drop 1 }

/-- A source is a member of a group for a take (R150). -/
def isMember (g : Nat) (slate slot : Fin 128) (c : Context) : Bool :=
  c.isOpen && c.entry.group == g && c.entry.cls != .slate && slot != slate

/-- A member is rolling at a clap of arrival PT `arrival` (R150). -/
def isRolling (limit arrival : Nat) (c : Context) : Bool :=
  c.state != .lost && c.anchor.isSome && decide (arrival ≤ c.lastArrival + limit * 1000)

/-- The rolling members of a group in ascending slot order (R150). -/
def rollingMembers (s : State) (g : Nat) (limit : Nat) (m : ClapMark) : List (Fin 128) :=
  allSlots.filter fun i => isMember g m.slot i (s.ctx i) && isRolling limit m.arrival (s.ctx i)

/-- The count at a clap: the reverse conversion of the clap PT, absent out of range (R78, R79, R150). -/
def countAtClap (s : State) (c : Context) (clapPt : Nat) : Option Nat :=
  match c.anchor with
  | some a => (reverse (contextConversion s c a) (ptHeld s) clapPt).map Converted.value
  | none => none

/-- A take row for a rolling member (R147, R150). -/
def rowFor (s : State) (clapPt : Nat) (i : Fin 128) : TakeRow :=
  let c := s.ctx i
  { slot := i, role := c.entry.cls, gen := c.gen, count := countAtClap s c clapPt
    status := if c.entry.cls = .recorder then .pending else .fixed, delta := none }

/-- The label difference of a clap, absent when the slate label is invalid (R151). -/
def labelDifference (s : State) (m : ClapMark) : Option Int :=
  let p := s.clock.params
  let day : Int := labelDay p
  if labelValid p m.label then
    let d := ((indexOfLabel p m.label : Int) - houseIndex s m.pt) % day
    some (if day < 2 * d then d - day else d)
  else none

/-- The detail of SLATE_OFF (Table 10-1). -/
def slateOffDetail (n : Nat) (slate : Fin 128) (diff : Option Int) : List Byte :=
  beBytes 2 n ++ [byteOf slate, if diff.isSome then 0 else 1] ++ signedBytes 4 (diff.getD 0)

/-- The take number after a take's (R148). -/
def followingTake (n : Nat) : Nat := if 65535 ≤ n then 1 else n + 1

/-- A take joins the table at the back and takes its number (R148, R152). -/
def addTake (t : Take) (s : State) : State :=
  s.setPairing { s.pairing with
    takes := s.pairing.takes ++ [t], nextTake := followingTake s.pairing.nextTake }

/-- A pending clap joins the list; the oldest of a full list is ended first (R152). -/
def addClap (c : PendingClap) (s : State) : State :=
  let s1 :=
    if s.pairing.claps.length < Config.clapCapacity then s
    else match s.pairing.claps with
      | [] => s
      | x :: _ => endClap x.take s
  s1.setPairing { s1.pairing with claps := s1.pairing.claps ++ [c] }

/-- The held transients that a PENDING row of a slot may take (R153). -/
def heldCandidates (s : State) (t : Take) (slot : Fin 128) : List HeldTransient :=
  s.pairing.held.filter fun h =>
    h.group == t.group && h.slot == slot &&
      decide (ptDistance h.pt t.clapPt ≤ pairingWindow s t.group)

/-- A row of a new take looks for its transient among the held transients (R153). -/
def visitRow (n : Nat) (slot : Fin 128) (s : State) : State :=
  match s.takeNumbered n with
  | none => s
  | some t =>
    if t.rows.any (fun r => r.slot == slot && r.isPending) then
      match nearest (fun h => ptDistance h.pt t.clapPt) (heldCandidates s t slot) with
      | none => s
      | some h =>
        pairRow t slot h.count h.pt
          (s.setPairing { s.pairing with held := s.pairing.held.erase h })
    else s

/-- A new take that is still OPEN with its deadline at or before the current PT is ended in the same event
(R153). -/
def endIfPast (n : Nat) (s : State) : State :=
  if s.pairing.claps.any (fun c => c.take == n && decide (c.deadline ≤ s.clock.pt)) then
    endClap n s
  else s

/-- A clap of a VALID group makes its take (R150 to R153), room in the table being made. -/
def makeTake (m : ClapMark) (g : Nat) (e : GroupEntry) (s : State) : State :=
  let n := s.pairing.nextTake
  let rolling := rollingMembers s g e.rollingLimit m
  let rows := (rolling.take Config.rowCapacity).map (rowFor s m.pt)
  let diff := labelDifference s m
  let off := match diff with
    | some d => decide ((e.labelTol : Int) < |d|)
    | none => true
  let s1 := if off then raise .slateOff (slateOffDetail n m.slot diff) s else s
  let t : Take :=
    { number := n, scene := m.scene, codeNumber := m.codeNumber, group := g, slate := m.slot
      clapPt := m.pt, labelDiff := diff, isOpen := rows.any TakeRow.isPending
      omitted := rolling.length - Config.rowCapacity, rows := rows }
  if t.isOpen then
    let s2 := addTake t (addClap ⟨n, g, m.pt, deadlineOf s1 g m.pt⟩ s1)
    endIfPast n ((rows.map TakeRow.slot).foldl (fun s i => visitRow n i s) s2)
  else addTake t s1

/-- A clap of a DAMAGED group makes a take with no rows (R163). -/
def makeDamagedTake (m : ClapMark) (g : Nat) (s : State) : State :=
  let n := s.pairing.nextTake
  let diff := labelDifference s m
  let s1 := if diff.isNone then raise .slateOff (slateOffDetail n m.slot diff) s else s
  addTake
    { number := n, scene := m.scene, codeNumber := m.codeNumber, group := g, slate := m.slot
      clapPt := m.pt, labelDiff := diff, isOpen := false, omitted := 0, rows := [] } s1

/-- A participating clap meets the take policy, then makes its take (R149, R163). -/
def clapTake (m : ClapMark) (g : Nat) (e : Stored GroupEntry) (s : State) : State :=
  if tableFull s && s.pairing.policy == .keepFirst then
    raise .takeFull ([byteOf m.slot] ++ m.scene ++ beBytes 2 m.codeNumber) s
  else
    let s1 := if tableFull s then shiftTakes s else s
    if e.damaged then makeDamagedTake m g s1 else makeTake m g e.content s1

/-- A CLAP handed to the Pairing Unit (R144). -/
def handleClap (m : ClapMark) (s : State) : State :=
  let c := s.ctx m.slot
  if c.entry.cls = .slate then
    match s.groupAt c.entry.group with
    | some e => clapTake m c.entry.group e s
    | none => s
  else s

/-! ### Transients (R145, R154, R155) -/

/-- The pending claps that a transient may pair with (R154). -/
def clapCandidates (s : State) (g : Nat) (slot : Fin 128) (pt : Nat) : List PendingClap :=
  s.pairing.claps.filter fun c =>
    c.group == g &&
      (match s.takeNumbered c.take with
        | some t => t.rows.any fun r => r.slot == slot && r.isPending
        | none => false) &&
      decide (ptDistance c.clapPt pt ≤ pairingWindow s g)

/-- The detail of TRANSIENT_UNPAIRED, cause 0 displaced or 1 expired (Table 10-1). -/
def transientDetail (h : HeldTransient) (cause : Byte) : List Byte :=
  [byteOf h.slot] ++ beBytes 6 h.pt ++ [cause]

/-- A transient joins the held list, displacing the oldest of a full list; one already expired is discarded
at once (R155). -/
def holdTransient (h : HeldTransient) (s : State) : State :=
  if h.deadline ≤ s.clock.pt then raise .transientUnpaired (transientDetail h 1) s
  else
    let s1 :=
      if s.pairing.held.length < Config.heldCapacity then s
      else match s.pairing.held with
        | [] => s
        | x :: rest =>
          raise .transientUnpaired (transientDetail x 0) (s.setPairing { s.pairing with held := rest })
    s1.setPairing { s1.pairing with held := s1.pairing.held ++ [h] }

/-- A TRANSIENT handed to the Pairing Unit (R145, R154, R155). -/
def handleTransient (slot : Fin 128) (count pt : Nat) (s : State) : State :=
  let w := (s.ctx slot).entry
  if w.cls = .recorder ∧ (validContent (s.groupAt w.group)).isSome then
    match nearest (fun c => ptDistance c.clapPt pt) (clapCandidates s w.group slot pt) with
    | some c =>
      match s.takeNumbered c.take with
      | some t => pairRow t slot count pt s
      | none => s
    | none => holdTransient ⟨slot, w.group, count, pt, deadlineOf s w.group pt⟩ s
  else s

/-! ### Deadlines (R160, R161) -/

/-- A deadline is reached: the part is RUNNING and PT stands at it or past it (R160). -/
def deadlineReached (s : State) (deadline : Nat) : Bool :=
  s.mgmt.device == .running && decide (deadline ≤ s.clock.pt)

/-- The pending clap of a take has reached its deadline (R160). -/
def clapDue (s : State) (n : Nat) : Bool :=
  s.pairing.claps.any fun c => c.take == n && deadlineReached s c.deadline

/-- The held transient at a place leaves the list at its deadline, with TRANSIENT_UNPAIRED (R161). -/
def expireTransient (i : Nat) (s : State) : State :=
  match s.pairing.held[i]? with
  | some h =>
    if deadlineReached s h.deadline then
      raise .transientUnpaired (transientDetail h 1)
        (s.setPairing { s.pairing with held := s.pairing.held.eraseIdx i })
    else s
  | none => s

end Sys2Proof.Machine
end

