-- ==== Sys2Proof/Machine/Tracking.lean ====
section
/-! DEFINITION. The Tracking Unit (06): opening (R103) and closing (R105) contexts, judging PACE marks (R108 to
R113, R119), the window close (R114 to R116) and silence (R117, R118). -/

namespace Sys2Proof.Machine

/-! ### Opening and closing -/

/-- A context as an open leaves it (R103). -/
def openedContext (w : SourceEntry) (c : Context) : Context :=
  { c with
    state := .acquiring, work := some w, gen := (c.gen + 1) % Config.wrap32, anchor := none
    trim := w.initialTrim, adjust := 0, windowCount := 0, windowSum := 0, silence := w.silenceLimit
    marks := 0, missed := 0, duplicates := 0, slips := 0, jumps := 0, stale := false }

/-- The contents of a slot's VALID Source Table entry (R53). -/
def validSource (s : State) (slot : Fin 128) : Option SourceEntry := validContent (s.sourceAt slot)

/-- An open of a context from the slot's entry (R103). -/
def openContext (slot : Fin 128) (w : SourceEntry) (s : State) : State :=
  s.setCtx slot (openedContext w (s.ctx slot))

/-- A close of an open context: segment end, state CLOSED, slot-closed notice (R105). DESIGN CHOICE: a silence expiry
still due is not taken first, so no SOURCE_LOST is raised (R117, log entry 34). -/
def closeContext (slot : Fin 128) (s : State) : State :=
  let c := s.ctx slot
  let s1 := fillSegment slot ⟨c.lastCount, c.lastConverted⟩ s
  slotClosed slot c.gen (s1.setCtx slot { c with state := .closed })

/-- The slots of the open contexts, ascending. -/
def openSlots (s : State) : List (Fin 128) := allSlots.filter fun i => (s.ctx i).isOpen

/-- Every open context is closed, one at a time, in any order (R107). -/
def closeAll (s : State) : State :=
  (inAnyOrder s.freeDraws (fun i : Fin 128 => (i : Nat)) (openSlots s)).foldl
    (fun s i => closeContext i s) { s with freeDraws := s.freeDraws + 1 }

/-! ### Stamps -/

/-- The stamp statuses in code order (Table 2-5). -/
inductive StampStatus where
  | locked | tracking | anchored | duplicate | stale | clamped | unmapped | closed
deriving DecidableEq, Repr

/-- The picture time and status of a stamp (R94). -/
structure Stamp where
  pt : Nat
  status : StampStatus
deriving DecidableEq, Repr

/-- The stamp of a forward conversion: CLAMPED when it carries the clamp indication (R94). -/
def convertedStamp (v : Converted) (status : StampStatus) : Stamp :=
  ⟨v.value, if v.clamped then .clamped else status⟩

/-- The status of a mark that fits its context's state (R87, R91). -/
def fittingStatus (st : ContextState) : StampStatus :=
  match st with
  | .locked => .locked
  | .lost => .stale
  | .closed | .acquiring | .drifting => .tracking

/-- A count converted forward under a context's current anchor and trim (R69, R78). -/
def contextForward (s : State) (c : Context) (a : Anchor) (count : Nat) : Converted :=
  forward (contextConversion s c a) (ptHeld s) count

/-- The state and the stamp that the handling of a mark leaves. -/
structure Tracked where
  state : State
  stamp : Stamp
deriving DecidableEq, Repr

/-! ### Window close -/

/-- The state that a window close sets (R116). -/
def windowState (st : ContextState) (within : Bool) : ContextState :=
  match st, within with
  | .acquiring, true | .locked, true | .drifting, true => .locked
  | .acquiring, false => .acquiring
  | .locked, false | .drifting, false => .drifting
  | .closed, _ => .closed
  | .lost, _ => .lost

/-- The mean error of a full window, truncated toward zero (R114). -/
def windowMean (c : Context) : Int := c.windowSum.tdiv c.entry.window

/-- The trim that would follow a window close (R114). -/
def unclampedTrim (c : Context) : Int := c.trim - c.entry.gain * windowMean c

/-- A trim within the working copy's trim limit (R114). -/
def clampTrim (limit : Nat) (z : Int) : Int := max (-(limit : Int)) (min z limit)

/-- The window closes on an absorbed mark: trim, TRIM_LIMIT, phase pull, WINDOW anchor and state (R114 to
R116). -/
def windowClose (slot : Fin 128) (count converted : Nat) (s : State) : State :=
  let c := s.ctx slot
  let mean := windowMean c
  let trim := clampTrim c.entry.trimLimit (unclampedTrim c)
  let s1 :=
    if trim = unclampedTrim c then s
    else raise .trimLimit ([byteOf slot] ++ signedBytes 4 (unclampedTrim c)) s
  let c' := { c with
    trim := trim, windowCount := 0, windowSum := 0
    state := windowState c.state (decide (|mean| ≤ (c.entry.lockTol : Int))) }
  anchorChange slot .window count (clampPt ((converted : Int) - mean.tdiv 4))
    (some ⟨count, converted⟩) (s1.setCtx slot c')

/-! ### PACE marks -/

/-- A PACE mark that sets an anchor at its arrival is stamped with the new anchor's picture time (R88). -/
def anchoredPace (slot : Fin 128) (reason : AnchorReason) (count arrival : Nat) (s : State) : Tracked :=
  let pt0 := arrivalAnchorPt (s.ctx slot) arrival
  { state := reanchorAtArrival slot reason count arrival s
    stamp := ⟨pt0, if ptHeld s then .clamped else .anchored⟩ }

/-- A jump (R112). -/
def jumpPace (slot : Fin 128) (count arrival : Nat) (delta : Int) (s : State) : Tracked :=
  let c := s.ctx slot
  let r := anchoredPace slot .jump count arrival
    (s.setCtx slot { c with state := .acquiring, jumps := bump c.jumps })
  { r with state := raise .sourceJump ([byteOf slot] ++ signedBytes 5 delta) r.state }

/-- A slip of error `e` (R113). -/
def slipPace (slot : Fin 128) (count arrival : Nat) (e : Int) (s : State) : Tracked :=
  let c := s.ctx slot
  let r := anchoredPace slot .slip count arrival
    (s.setCtx slot { c with state := .acquiring, slips := bump c.slips })
  { r with state := raise .sourceSlip ([byteOf slot] ++ signedBytes 6 e) r.state }

/-- The error of a normal mark (R111). -/
def markError (c : Context) (converted arrival : Nat) : Int :=
  (converted : Int) - ((arrival : Int) - c.effective)

/-- A normal mark is absorbed, and closes the window when it fills it (R111, R114). -/
def absorbPace (slot : Fin 128) (count arrival : Nat) (v : Converted) (s : State) : Tracked :=
  let c := s.ctx slot
  let c' := { c with
    windowSum := c.windowSum + markError c v.value arrival, windowCount := c.windowCount + 1
    lastCount := count, lastArrival := arrival, lastConverted := v.value
    silence := c.entry.silenceLimit }
  let s1 := s.setCtx slot c'
  { state := if c.entry.window ≤ c'.windowCount then windowClose slot count v.value s1 else s1
    stamp := convertedStamp v (fittingStatus c.state) }

/-- A normal mark: converted, measured, then slipped or absorbed (R111, R113). -/
def normalPace (slot : Fin 128) (a : Anchor) (count arrival : Nat) (s : State) : Tracked :=
  let c := s.ctx slot
  let v := contextForward s c a count
  let e := markError c v.value arrival
  if (c.entry.slipTol : Int) < |e| then slipPace slot count arrival e s
  else absorbPace slot count arrival v s

/-- The strides that a normal mark advances: `some j` when delta is j strides with j from 1 to the gap limit
(R109). -/
def stridesOf (w : SourceEntry) (delta : Int) : Option Nat :=
  if 0 < delta ∧ delta % (w.stride : Int) = 0 ∧ delta / (w.stride : Int) ≤ (w.gapLimit : Int) then
    some (delta / (w.stride : Int)).toNat
  else none

/-- The cadence check of a PACE mark on an open, anchored context that is not LOST (R109, R110). -/
def cadencePace (slot : Fin 128) (a : Anchor) (count arrival : Nat) (s : State) : Tracked :=
  let c := s.ctx slot
  let delta := countDiff count c.lastCount
  if delta = 0 then
    { state := s.setCtx slot { c with duplicates := bump c.duplicates }
      stamp := convertedStamp (contextForward s c a count) .duplicate }
  else
    match stridesOf c.entry delta with
    | some j =>
      normalPace slot a count arrival
        (s.setCtx slot { c with missed := min (c.missed + (j - 1)) Config.maxCounter })
    | none => jumpPace slot count arrival delta s

/-- A PACE mark on an open context (R87): resume (R119), first anchor (R108) or cadence check (R109). -/
def pace (slot : Fin 128) (count arrival : Nat) (s : State) : Tracked :=
  let c := s.ctx slot
  let s1 := s.setCtx slot { c with marks := bump c.marks }
  if c.state = .lost then
    anchoredPace slot .resume count arrival
      (s1.setCtx slot { s1.ctx slot with state := .acquiring })
  else
    match c.anchor with
    | none => anchoredPace slot .opened count arrival s1
    | some a => cadencePace slot a count arrival s1

/-! ### Event marks (R91, R92) -/

/-- The stamp of a CLAP or TRANSIENT on an open context. -/
def eventStamp (s : State) (c : Context) (count arrival : Nat) : Stamp :=
  match c.anchor with
  | some a => convertedStamp (contextForward s c a count) (fittingStatus c.state)
  | none => ⟨arrivalAnchorPt c arrival, .tracking⟩

/-! ### Silence (R117, R118) -/

/-- The silence counter of a context counts: open, anchored and not LOST (R117). -/
def Context.counting (c : Context) : Bool := c.isOpen && c.state != .lost && c.anchor.isSome

/-- A context's silence counter at a house frame boundary (R117). -/
def Context.countSilence (c : Context) : Context :=
  if c.counting then { c with silence := c.silence - 1 } else c

/-- A context's silence counter has reached 0 (R117). -/
def Context.silenceDue (c : Context) : Bool := c.counting && c.silence == 0

/-- A context whose silence counter has reached 0 becomes LOST, with SOURCE_LOST (R117, R118). -/
def expireSilence (slot : Fin 128) (s : State) : State :=
  let c := s.ctx slot
  if c.silenceDue then
    raise .sourceLost ([byteOf slot] ++ beBytes 6 c.lastArrival) (s.setCtx slot { c with state := .lost })
  else s

end Sys2Proof.Machine
end

