-- ==== Sys2Proof/Machine/Stamping.lean ====
section
/-! DEFINITION. The Stamping Unit (05): the handling of one mark (R81) from lookup to stamp block. -/

namespace Sys2Proof.Machine

/-- The code of a stamp status (Table 2-5). -/
def stampCode : StampStatus → Byte
  | .locked => 0 | .tracking => 1 | .anchored => 2 | .duplicate => 3 | .stale => 4
  | .clamped => 5 | .unmapped => 6 | .closed => 7

/-- The twelve bytes of a stamp block (Table 2-3, R95). -/
def stampBlock (s : State) (x : Stamp) (slot : Byte) : List Byte :=
  beBytes 6 x.pt ++ houseLabelBytes s x.pt ++ [stampCode x.status, slot]

/-- A mark with its stamped flag set, the stamp block after its payload and a fresh trailer (R37). -/
def stampedCell (w : Cell) (block : List Byte) : Cell :=
  let body := w.dropLast.set 2 (byteAt w 2 ||| 0x08#8) ++ block
  body ++ [crc body]

/-- The stamped mark joins the queue of the other port (R37, R95). -/
def emitStamped (port : Port) (w : Cell) (x : Stamp) (slot : Byte) (s : State) : State :=
  joinForwarded (otherPort port) (stampedCell w (stampBlock s x slot)) s

/-- The source count of a mark (R83). -/
def markCount (w : Cell) : Nat := fieldNat (cellPayload w) 0 5

/-- What a CLAP mark hands to the Pairing Unit (R26, R93, Table 2-2). -/
def clapMark (w : Cell) (slot : Fin 128) (x : Stamp) (arrival : Nat) : ClapMark :=
  let d := cellPayload w
  { slot := slot, pt := x.pt, arrival := arrival, label := readLabel (field d 5 4)
    scene := field d 9 6, codeNumber := fieldNat d 15 2 }

/-- A mark on an open context: a PACE mark is tracked, an event mark converted and handed to the Pairing Unit
(R81 stages 5 to 7). -/
def handleOpen (w : Cell) (slot : Fin 128) (arrival : Nat) (s : State) : Tracked :=
  if cellKind w = 1 then pace slot (markCount w) arrival s
  else
    let x := eventStamp s (s.ctx slot) (markCount w) arrival
    if cellKind w = 2 then ⟨handleClap (clapMark w slot x arrival) s, x⟩
    else ⟨handleTransient slot (markCount w) x.pt s, x⟩

/-- The entry that lets a mark open a slot's CLOSED context: VALID with auto-open yes (R85). -/
def autoOpens (s : State) (slot : Fin 128) : Option SourceEntry :=
  match validSource s slot with
  | some e => if e.autoOpen then some e else none
  | none => none

/-- A mark whose key names a slot (R85, R86). -/
def handleMapped (w : Cell) (slot : Fin 128) (arrival : Nat) (s : State) : Tracked :=
  if (s.ctx slot).isOpen then handleOpen w slot arrival s
  else
    match autoOpens s slot with
    | some e => handleOpen w slot arrival (openContext slot e s)
    | none => ⟨s, ⟨arrival, .closed⟩⟩

/-- The handling of one mark (R81), its arrival PT settled (R82). -/
def stampMark (port : Port) (w : Cell) (arrival : Nat) (s : State) : State :=
  let k := cellKey w
  match s.lookup k with
  | none =>
    emitStamped port w ⟨arrival, .unmapped⟩ 255
      (raise .unmappedSource (keyBytes k ++ [portCode port]) s)
  | some slot =>
    let r := handleMapped w slot arrival s
    emitStamped port w r.stamp (byteOf slot) r.state

end Sys2Proof.Machine
end

