-- ==== Sys2Proof/Machine/Link.lean ====
section
/-! DEFINITION. The ports and the Cell Router (02): header complete (R29), arrival and classification (R29 to
R35), reception into inbox and locate queue (R130, R173), and sending (R39). -/

namespace Sys2Proof.Machine

/-- The part acts: power is applied and RESETn is high (R170). -/
def State.alive (s : State) : Bool := s.powered && !s.resetLow

/-! ### Reception of requests -/

/-- A request handed to the Locate Unit (R130). -/
def handToLocate (r : Request) (s : State) : State :=
  match s.mgmt.device with
  | .configuring | .running =>
    if s.locate.queue.length < Config.locateCapacity then
      { s with locate := { s.locate with queue := s.locate.queue ++ [r] } }
    else replyNow r .busy [] s
  | .starting => replyNow r .busy [] s
  | .addressing | .boot => replyNow r .state [] s

/-- A request handed to the Management Unit (R173, R174). -/
def handToMgmt (r : Request) (s : State) : State :=
  if s.mgmt.inbox.length < Config.inboxCapacity then
    { s with mgmt := { s.mgmt with inbox := s.mgmt.inbox ++ [r] } }
  else if r.broadcast then s
  else replyNow r .busy (refusalData r) s

/-- A consumed request goes to the unit of its kind; a payload shorter than 2 bytes is consumed without a
reply (R32). -/
def handOver (port : Port) (w : Cell) (s : State) : State :=
  if (cellPayload w).length < 2 then s
  else
    let r := requestOf port false w
    if isLocateKind r.kind then handToLocate r s else handToMgmt r s

/-! ### Classification -/

/-- A cell forwarded unchanged to the other port (R37). -/
def forwardCell (port : Port) (w : Cell) (s : State) : State := joinForwarded (otherPort port) w s

/-- A good mark that needs `need` payload bytes (R31). -/
def routeMark (port : Port) (w : Cell) (need arrival : Nat) (s : State) : State :=
  if cellStamped w then
    forwardCell port w (s.countAt port fun x => { x with alreadyStamped := bump x.alreadyStamped })
  else if cellLength w < need then
    forwardCell port w (s.countAt port fun x => { x with shortMarks := bump x.shortMarks })
  else if s.mgmt.device = .running then stampMark port w arrival s
  else forwardCell port w s

/-- A destination node is the part's own address (R32, R35). -/
def isOwn (s : State) (dest : Nat) : Bool := s.mgmt.device != .boot && s.mgmt.address == some dest

/-- A broadcast is taken by the part (R33). -/
def takesBroadcast (s : State) (w : Cell) : Bool :=
  (match s.mgmt.device with
    | .configuring | .starting | .running => true
    | .boot | .addressing => false) &&
  decide (2 ≤ (cellPayload w).length) && isBroadcastKind (byteAt (cellPayload w) 0).toNat

/-- A good REQUEST (R32 to R34). -/
def routeRequest (port : Port) (w : Cell) (s : State) : State :=
  if isOwn s (cellDest w) then
    handOver port w (s.countAt port fun x => { x with consumed := bump x.consumed })
  else if cellDest w = 255 ∧ takesBroadcast s w then
    forwardCell port w (handToMgmt (requestOf port true w)
      (s.countAt port fun x => { x with broadcastTaken := bump x.broadcastTaken }))
  else forwardCell port w s

/-- The Cell Router's decision on a good cell (Table 2-6). -/
def routeCell (port : Port) (w : Cell) (arrival : Nat) (s : State) : State :=
  match markNeed (cellKind w) with
  | some need => routeMark port w need arrival s
  | none => if cellKind w = 5 then routeRequest port w s else forwardCell port w s

/-! ### Arrival -/

/-- The arrival PT of the cell that arrives at a port: the one its header took, or 0 when that was taken before
the part entered STARTING for the current run (R29, R82); the present PT when no header was signalled. -/
def arrivalPt (s : State) (port : Port) : Nat :=
  match (s.port port).header with
  | some h => if h.beforeStarting then 0 else h.pt
  | none => s.clock.pt

/-- A cell's last byte is received (R29, R30, R42). -/
def arriveCell (port : Port) (w : Cell) (s : State) : State :=
  let arrival := arrivalPt s port
  let s1 := (s.setPort port { s.port port with header := none }).countAt port
    fun x => { x with arrived := bump x.arrived }
  if cellGood w then routeCell port w arrival s1
  else
    raise .linkDamage [portCode port]
      (s1.countAt port fun x => { x with damaged := bump x.damaged })

/-- CELL_HEADER_COMPLETE: the port takes the cell's arrival PT (R29). A cell that begins while RESETn is low or the
power is off is not received, and is discarded with its rest (R29, R170; log entry 9). -/
def execCellHeaderComplete (port : Port) (s : State) : Host.Outcome State Fault Refusal :=
  .next (s.setPort port { s.port port with
    header := some (if s.alive then { pt := s.clock.pt, beforeStarting := false } else .discard) })

/-- The cell whose rest now arrives at a port was partly received at a power-up or RESETn, which discarded it
(R29). -/
def State.discards (s : State) (port : Port) : Bool := (s.port port).header.any HeaderTaken.discarded

/-- The rest of a discarded cell has come: it is neither counted nor handled (R29). -/
def passDiscarded (port : Port) (s : State) : State := s.setPort port { s.port port with header := none }

/-- CELL_ARRIVAL (R29); while RESETn is low or the power is off a cell is not received (R170), and one that was partly
received at the power-up or reset before is discarded. -/
def execCellArrival (port : Port) (wire : Cell) (s : State) : Host.Outcome State Fault Refusal :=
  if s.alive && !s.discards port then .next (arriveCell port wire s) else .next (passDiscarded port s)

/-! ### Sending -/

/-- Sending of the oldest queued cell begins when the transmitter is idle and not held off (R39). -/
def startSending (port : Port) (s : State) : State :=
  let x := s.port port
  match x.queue, x.sending with
  | c :: rest, none =>
    if x.heldOff then s else s.setPort port { x with queue := rest, sending := some c }
  | [], none => s
  | _, some _ => s

/-- A sending can begin at a port (R39). -/
def canSend (s : State) (port : Port) : Bool :=
  !(s.port port).heldOff && (s.port port).sending.isNone && !(s.port port).queue.isEmpty

/-- CELL_SEND_START (R39). -/
def execCellSendStart (port : Port) (s : State) : Host.Outcome State Fault Refusal :=
  if s.alive then .next (startSending port s) else .next s

/-- CELL_SEND_END: the transmitter becomes idle (R39). -/
def execCellSendEnd (port : Port) (s : State) : Host.Outcome State Fault Refusal :=
  if s.alive then .next (s.setPort port { s.port port with sending := none }) else .next s

/-- TRANSMITTER_HOLD_OFF: the physical layer holds the transmitter off (R39). -/
def execTransmitterHoldOff (port : Port) (s : State) : Host.Outcome State Fault Refusal :=
  .next (s.setPort port { s.port port with heldOff := true })

/-- TRANSMITTER_HOLD_OFF_END: the physical layer releases the transmitter (R39). -/
def execTransmitterHoldOffEnd (port : Port) (s : State) : Host.Outcome State Fault Refusal :=
  .next (s.setPort port { s.port port with heldOff := false })

end Sys2Proof.Machine
end

