-- ==== Sys2Proof/Machine/Capture.lean ====
section
/-! DEFINITION. The Run Parameter record (09, section 9.7): captures with validation (R182, R183), the effect
of a clock capture on clock state and Reference Monitor (R11), and live writes (R184, R21). -/

namespace Sys2Proof.Machine

/-! ### Captures -/

/-- A rate code with which drop-frame may be on (R1, R183). -/
def dropRateCode (code : Nat) : Bool := code == 3 || code == 7

/-- A drop-frame field as written is valid with a rate code taken into use (R183). -/
def dropFrameValid (rate v : Nat) : Bool := v == 0 || (v == 1 && dropRateCode rate)

/-- The clock class as a capture takes it into use (R1, R183). -/
def clockInUse (s : State) : ClockParams :=
  { rate := s.inUse 0
    dropFrame := dropFrameValid (s.inUse 0) (s.param 1) && s.param 1 == 1
    externalRef := s.inUse 2 == 1, divisor := s.inUse 3, tolerance := s.inUse 4
    window := s.inUse 5, lockCount := s.inUse 6, lossCount := s.inUse 7 }

/-- The clock fields that a capture finds invalid, in the order of Table 9-4 (R183). -/
def clockInvalid (s : State) : List Nat :=
  [0, 1, 2, 3, 4, 5, 6, 7].filter fun code =>
    if code = 1 then !dropFrameValid (s.inUse 0) (s.param 1) else !fieldValid code (s.param code)

/-- The epoch label as written (R27, Table 9-4). -/
def writtenEpoch (s : State) : Label := readLabel (beBytes 4 (s.param 8))

/-- The run fields that a capture finds invalid under the clock parameters `p` (R183). -/
def runInvalid (s : State) (p : ClockParams) : List Nat :=
  [8, 9, 10, 11, 12, 13].filter fun code =>
    if code = 8 then !labelValid p (writtenEpoch s) else !fieldValid code (s.param code)

/-- The epoch index of a capture: of the epoch label, or 0 for an invalid one (R5). -/
def capturedEpoch (s : State) (p : ClockParams) : Nat :=
  if labelValid p (writtenEpoch s) then indexOfLabel p (writtenEpoch s) else 0

/-- One entry of the defaulted-field list set or removed (R183, R184). -/
def setDefaulted (v : Vector Bool fieldCount) (code : Nat) (b : Bool) : Vector Bool fieldCount :=
  if h : code < fieldCount then v.set code b else v

/-- The list's entries for some fields rewritten: those in `bad` entered, the others removed (R183). -/
def rewriteDefaulted (codes bad : List Nat) (v : Vector Bool fieldCount) : Vector Bool fieldCount :=
  codes.foldl (fun v c => setDefaulted v c (bad.contains c)) v

/-- SETUP_DEFAULTED raised for each field, in order (R183). -/
def raiseDefaulted (codes : List Nat) (s : State) : State :=
  codes.foldl (fun s c => raise .setupDefaulted [byteOf c] s) s

/-- A capture restarts the Reference Monitor (R11). -/
def captureRestarts (old new : ClockParams) : Bool :=
  !new.externalRef || !old.externalRef || new.rate != old.rate || new.divisor != old.divisor

/-- The clock state after a capture (R11). -/
def capturedState (old new : ClockParams) (st : ClockState) : ClockState :=
  if !new.externalRef then .free else if captureRestarts old new then .seeking else st

/-- A Reference Monitor restarted, its noise count kept (R11, R12). -/
def restarted (m : RefMonitor) : RefMonitor := { noise := m.noise }

/-- The clock class captured (R1, R11, R183), without the events it raises. -/
def captureClock (s : State) : State :=
  let p := clockInUse s
  { s with
    clock := { s.clock with params := p, state := capturedState s.clock.params p s.clock.state }
    monitor := if captureRestarts s.clock.params p then restarted s.monitor else s.monitor
    defaulted := rewriteDefaulted [0, 1, 2, 3, 4, 5, 6, 7] (clockInvalid s) s.defaulted }

/-- The run class captured (R5, R18, R65, R165, R183), without the events it raises. -/
def captureRun (s : State) : State :=
  let p := s.clock.params
  { s with
    settings := {
      epochIndex := capturedEpoch s p, tickInterval := s.inUse 9, scrubRate := s.inUse 10
      sourceAction := if s.inUse 12 = 0 then .keep else .close
      mapAction := if s.inUse 13 = 0 then .ignore else .use }
    pairing := { s.pairing with policy := if s.inUse 11 = 0 then .shift else .keepFirst }
    defaulted := rewriteDefaulted [8, 9, 10, 11, 12, 13] (runInvalid s p) s.defaulted }

/-! ### Tick line parameters in use (R184) -/

/-- A line's enable in use (R184). -/
def lineEnabled (s : State) : Line → Bool
  | .a => s.inUse 53 == 1
  | .b => s.inUse 54 == 1

/-- A line's divisor in use (R184). -/
def lineDivisor (s : State) : Line → Nat
  | .a => s.inUse 55
  | .b => s.inUse 56

/-- The tick line mode in use (R184). -/
def lineModeInUse (s : State) : LineMode :=
  if s.inUse 57 = 1 then .chained else if s.inUse 57 = 2 then .complement else .separate

/-- In COMPLEMENT mode an enabled TICKB takes the inverse of TICKA's level (R20). -/
def complementB (l : TickLines) : TickLines :=
  if l.mode = .complement ∧ l.b.started then { l with b := { l.b with high := !l.a.high } } else l

/-- Lines whose enable is written off go to their disabled levels, and their counters stand still (R21). DESIGN CHOICE
(log entry 35): a toggle still due at the boundary before does not take place first; it is lost with its line. -/
def applyEnables (s : State) : State :=
  let l := s.lines
  let a := if lineEnabled s .a then l.a else { l.a with high := true, started := false }
  let b := if lineEnabled s .b then l.b else { l.b with high := false, started := false }
  { s with lines := complementB { l with a := a, b := b } }

/-! ### Live writes -/

/-- The pairs of field code and value that WRITE_PARAMS carries; bytes after the last whole pair are
disregarded (R27). -/
def paramPairs : List Byte → List (Nat × Nat)
  | c :: v3 :: v2 :: v1 :: v0 :: rest => (c.toNat, beNat [v3, v2, v1, v0]) :: paramPairs rest
  | _ => []

/-- A field stored exactly as written, with a tick line enable's effect at the write (R182, R21). -/
def storeField (x : Nat × Nat) (s : State) : State :=
  if h : x.1 < fieldCount then
    applyEnables { s with paramRecord := s.paramRecord.set x.1 (BitVec.ofNat 32 x.2) }
  else s

/-- The live fields that a write names, in the order of Table 9-4 (R184). -/
def liveNamed (xs : List (Nat × Nat)) : List Nat :=
  (List.range fieldCount).filter fun c => decide (14 ≤ c) && xs.any fun x => x.1 == c

/-- Every named field stored; live fields take effect and are validated, and SETUP_DEFAULTED is raised for the
invalid ones under the fields as the write left them (R182, R184, R190, R193). -/
def writeFields (xs : List (Nat × Nat)) (s : State) : State :=
  let s1 := xs.foldl (fun s x => storeField x s) s
  let bad := (liveNamed xs).filter fun c => !fieldValid c (s1.param c)
  raiseDefaulted bad
    (State.evalFault { s1 with defaulted := rewriteDefaulted (liveNamed xs) bad s1.defaulted })

end Sys2Proof.Machine
end

