-- ==== Sys2Proof/Machine/Scrub.lean ====
section
/-! DEFINITION. Checks of table entries (R58), the damage actions (R62 to R64), the Table Scrubber (R59) and
the validation walk (R60). -/

namespace Sys2Proof.Machine

/-- TABLE_DAMAGE with its table code and index (R58, Table 10-1). -/
def raiseDamage (table index : Nat) (s : State) : State :=
  raise .tableDamage [byteOf table, byteOf index] s

/-- The captured source damage action applied to a slot (R62). -/
def sourceDamaged (slot : Fin 128) (s : State) : State :=
  let c := s.ctx slot
  if c.isOpen then
    match s.settings.sourceAction with
    | .keep => s.setCtx slot { c with stale := true }
    | .close => closeContext slot s
  else s

/-- A check of a Stream Map entry (R58, R63). -/
def checkMap (i : Fin 256) (s : State) : State :=
  match s.mapAt i with
  | some e => if checkFails (some e) then raiseDamage 0 i (s.setMap i (damage e)) else s
  | none => s

/-- A check of a Source Table entry (R58, R62). -/
def checkSource (i : Fin 128) (s : State) : State :=
  match s.sourceAt i with
  | some e =>
    if checkFails (some e) then sourceDamaged i (raiseDamage 1 i (s.setSource i (damage e))) else s
  | none => s

/-- A check of a Group Table entry (R58, R64). -/
def checkGroup (i : Fin 16) (s : State) : State :=
  match s.tables.group[i] with
  | some e =>
    if checkFails (some e) then
      groupDamaged (i + 1) (raiseDamage 2 (i + 1) (s.setGroup i (damage e)))
    else s
  | none => s

/-- A check of the entry at a scrub position, 0 to 399 (R59). -/
def checkPosition (n : Nat) (s : State) : State :=
  if h : n < 256 then checkMap ⟨n, h⟩ s
  else if h2 : n < 384 then checkSource ⟨n - 256, by omega⟩ s
  else if h3 : n < 400 then checkGroup ⟨n - 384, by omega⟩ s
  else s

/-- One visit of the Table Scrubber (R59). -/
def scrubOne (s : State) : State :=
  let s1 := checkPosition s.tables.scrubPos s
  { s1 with tables := { s1.tables with scrubPos := (s.tables.scrubPos + 1) % 400 } }

/-- The Scrubber's visits at a house frame boundary in RUNNING (R59). -/
def scrub : Nat → State → State
  | 0, s => s
  | n + 1, s => scrub n (scrubOne s)

/-- The state with the validation walk's progress replaced. -/
def State.setWalk (s : State) (w : WalkState) : State := { s with tables := { s.tables with walk := w } }

/-- The walk checks its next position (R60). -/
def walkCheck (s : State) : State :=
  match s.tables.walk with
  | .checking n t => if n < 400 then (checkPosition n s).setWalk (.checking (n + 1) t) else s
  | .idle | .ended => s

/-- The walk checks up to `fuel` further positions. -/
def walkChecks : Nat → State → State
  | 0, s => s
  | fuel + 1, s => walkChecks fuel (walkCheck s)

/-- The walk completes its check of all 400 positions (R60). -/
def walkEnd (s : State) : State :=
  match s.tables.walk with
  | .checking n _ => (walkChecks (400 - n) s).setWalk .ended
  | .idle | .ended => s

end Sys2Proof.Machine
end

