-- ==== Sys2Proof/Machine/Clock.lean ====
section
/-! DEFINITION. The House Clock, the Reference Monitor and the Tick Generator (01): the passing of MCLK cycles,
milliframe and frame boundaries (R2, R3), what the frame-paced blocks do there, REFIN pulses (R12 to R14), the
missing timer (R15), step and hold (R16), tick cells (R18) and tick lines (R19 to R22). -/

namespace Sys2Proof.Machine

/-! ### Tick lines -/

/-- The device states in which the tick lines run (R19). -/
def linesRun (s : State) : Bool :=
  match s.mgmt.device with
  | .configuring | .starting | .running => true
  | .boot | .addressing => false

/-- TICKB's start level: high, or in COMPLEMENT mode the inverse of TICKA's level (R21). -/
def startLevelB (mode : LineMode) (aHigh : Bool) : Bool :=
  match mode with
  | .complement => !aHigh
  | .separate | .chained => true

/-- TICKA at a house frame boundary: started if newly enabled, else its counter decremented (R19, R21). -/
def frameLineA (s : State) (l : LineState) : LineState :=
  if lineEnabled s .a then
    if l.started then { l with counter := l.counter - 1 } else ⟨false, lineDivisor s .a, true⟩
  else l

/-- TICKB at a house frame boundary, under the mode just read (R19 to R21). -/
def frameLineB (s : State) (mode : LineMode) (aHigh : Bool) (l : LineState) : LineState :=
  if lineEnabled s .b then
    if l.started then (if mode = .separate then { l with counter := l.counter - 1 } else l)
    else ⟨startLevelB mode aHigh, lineDivisor s .b, true⟩
  else l

/-- The tick lines at a house frame boundary: mode reading, starts and dividers (R19 to R21). -/
def frameLines (s : State) : State :=
  if linesRun s then
    let mode := lineModeInUse s
    let a := frameLineA s s.lines.a
    { s with lines := complementB {
        a := a, b := frameLineB s mode a.high s.lines.b, mode := mode
        bLoaded := lineEnabled s .b && !s.lines.b.started } }
  else s

/-- The tick lines at the boundary where a run begins (R22). -/
def restartLines (s : State) : State :=
  let mode := lineModeInUse s
  let a := if lineEnabled s .a then ⟨false, lineDivisor s .a, true⟩ else s.lines.a
  let b := if lineEnabled s .b then ⟨startLevelB mode a.high, lineDivisor s .b, true⟩ else s.lines.b
  { s with lines := complementB { a := a, b := b, mode := mode, bLoaded := lineEnabled s .b } }

/-- A started line whose divider counter has reached 0 toggles (R19). -/
def LineState.due (l : LineState) : Bool := l.started && l.counter == 0

/-- A line toggled and its counter reloaded (R19). -/
def LineState.toggle (l : LineState) (divisor : Nat) : LineState :=
  { l with high := !l.high, counter := divisor }

/-- TICKB's toggle at its counter's 0, in SEPARATE or CHAINED mode (R19, R20). -/
def toggleB (s : State) : State :=
  if linesRun s && s.lines.b.due && s.lines.mode != .complement then
    { s with lines := { s.lines with b := s.lines.b.toggle (lineDivisor s .b) } }
  else s

/-- TICKB at a TICKA toggle under the mode just read: in CHAINED its counter is decremented (R20), unless it
was loaded at the boundary of that toggle (R21). -/
def chainB (mode : LineMode) (loaded : Bool) (l : LineState) : LineState :=
  if mode = .chained ∧ l.started ∧ !loaded then { l with counter := l.counter - 1 } else l

/-- TICKA's toggle at its counter's 0: the level, the reload, the mode reading and what follows for TICKB
(R19, R20). A TICKB toggle due at the same instant comes first. -/
def toggleA (s : State) : State :=
  if linesRun s && s.lines.a.due then
    let s1 := toggleB s
    let mode := lineModeInUse s
    let a := s1.lines.a.toggle (lineDivisor s .a)
    { s1 with lines := complementB { s1.lines with
        a := a, b := chainB mode s1.lines.bLoaded s1.lines.b, mode := mode } }
  else s

/-! ### Tick cells -/

/-- The code of a clock state (Table 2-5). -/
def clockCode : ClockState → Byte
  | .free => 0 | .seeking => 1 | .locked => 2 | .holdover => 3

/-- The payload of a TICK cell: the boundary's PT, its label, clock state and rate code (R18, Table 2-2). -/
def tickPayload (s : State) : List Byte :=
  let pt := s.clock.pt - s.clock.pt % 1000
  beBytes 6 pt ++ houseLabelBytes s pt ++ [clockCode s.clock.state, byteOf s.clock.params.rate]

/-- A due tick: the countdown is reloaded and one TICK cell is made for each egress queue (R18). -/
def makeTick (s : State) : State :=
  if s.tick.due then
    let d := tickPayload s
    joinTick .post d (joinTick .stage d
      { s with tick := { countdown := s.settings.tickInterval, due := false } })
  else s

/-- The tick cell countdown at a house frame boundary of a run (R18). -/
def frameTick (s : State) : State :=
  if s.settings.tickInterval = 0 ∨ s.clock.pt = Config.maxPt then s
  else
    let n := s.tick.countdown - 1
    { s with tick := { countdown := n, due := n == 0 } }

/-! ### What falls due at the present instant -/

/-- The contexts whose silence counter has reached 0, ascending (R117). -/
def silentSlots (s : State) : List (Fin 128) := allSlots.filter fun i => (s.ctx i).silenceDue

/-- The takes of the pending claps whose deadline is reached, oldest first (R160). -/
def dueClaps (s : State) : List Nat :=
  (s.pairing.claps.filter fun c => deadlineReached s c.deadline).map PendingClap.take

/-- The place of the oldest held transient whose deadline is reached (R161). -/
def dueTransient (s : State) : Option Nat :=
  s.pairing.held.findIdx? fun h => deadlineReached s h.deadline

/-- Up to `fuel` held transients leave at their deadlines, oldest first (R161). -/
def expireTransients : Nat → State → State
  | 0, s => s
  | fuel + 1, s =>
    match dueTransient s with
    | some i => expireTransients fuel (expireTransient i s)
    | none => s

/-- The expiries and toggles that fall due at the present instant take place before time goes on: silence,
claps, transients, tick, lines (R3, R17; the order is the model's, log entry 4). DESIGN CHOICE: no sending, handling or
service begins here; while commands wait, an idle transmitter begins its oldest cell only at CELL_SEND_START, and a
free unit its oldest request only at that request's command (R39, R131, R173; log entry 33). -/
def settle (s : State) : State :=
  let s1 := (silentSlots s).foldl (fun s i => expireSilence i s) s
  let s2 := (dueClaps s1).foldl (fun s n => endClap n s) s1
  let s3 := expireTransients s2.pairing.held.length s2
  toggleB (toggleA (makeTick s3))

/-! ### The passing of time -/

/-- R x P: the cycles between the pulses that the Reference Monitor expects (R12, R13). -/
def pulsePeriod (p : ClockParams) : Nat := p.divisor * (houseRate p.rate).period

/-- The cycles that the missing timer still has to count, while it runs (R15). -/
def missingLeft (s : State) : Option Nat :=
  match s.monitor.missing, s.monitor.last with
  | true, some t =>
    some (s.clock.params.lossCount * pulsePeriod s.clock.params - (s.clock.now - t))
  | _, _ => none

/-- The Reference Monitor on entry to HOLDOVER (R15). -/
def heldOver (m : RefMonitor) : RefMonitor := { m with good := 0, bad := 0, armed := true }

/-- REF_LOST with its cause, 0 missing or 1 out-of-window, on the way to HOLDOVER (R14, R15). -/
def loseReference (cause : Byte) (s : State) : State :=
  raise .refLost [cause]
    { s with clock := { s.clock with state := .holdover }, monitor := heldOver s.monitor }

/-- The missing timer expires (R15). -/
def expireMissing (s : State) : State :=
  let s1 := { s with monitor := { s.monitor with missing := false } }
  match s.clock.state with
  | .locked => loseReference 0 s1
  | .seeking | .holdover => { s1 with monitor := { s1.monitor with good := 0 } }
  | .free => s1

/-- The missing timer's expiry falls within the next `n` cycles, before their end (R15). DESIGN CHOICE: an expiry
that falls in the cycle of a milliframe or frame boundary comes after that boundary when time is left to pass
to it (log entry 30). -/
def missingWithin (n : Nat) (s : State) : Bool :=
  match missingLeft s with
  | some left => decide (left < n)
  | none => false

/-- The validation walk would outlast its limit in the next `n` cycles (R60). -/
def walkOutlasts (n : Nat) (s : State) : Bool :=
  match s.tables.walk with
  | .checking _ t => decide (t + Config.walkLimit < s.clock.now + n)
  | .idle | .ended => false

/-- `n` MCLK cycles pass: a walk or a missing timer that ends within them ends (R15, R60), then the frame
phase stands `n` cycles later (R2). -/
def passCycles (n : Nat) (s : State) : State :=
  let s1 := if walkOutlasts n s then walkEnd s else s
  let s2 := if missingWithin n s1 then expireMissing s1 else s1
  { s2 with clock := { s2.clock with now := s2.clock.now + n, phase := s2.clock.phase + n } }

/-- The cycle of a frame of period `period` at which milliframe `k` begins, and for 1000 the frame's end
(R2). -/
def milliframeStart (period k : Nat) : Nat := k * period / 1000

/-- The cycles from now to the next milliframe or frame boundary (R2). -/
def cyclesToBoundary (s : State) : Nat :=
  milliframeStart s.clock.period (s.clock.k + 1) - s.clock.phase

/-- PT at a milliframe boundary: one later in RUNNING, unless a hold withholds the advance (R3, R16). -/
def advancePt (running : Bool) (c : HouseClock) : HouseClock :=
  if running then
    if c.hold = 0 then { c with pt := min (c.pt + 1) Config.maxPt }
    else { c with hold := c.hold - 1 }
  else c

/-- Time passes to the next milliframe boundary, which takes place (R2, R3). DESIGN CHOICE: a clap or a held transient
whose deadline PT reaches here ends at its own command, or when time next passes (R160, R161; log entry 34). -/
def milliframe (s : State) : State :=
  let s1 := settle s
  let s2 := passCycles (cyclesToBoundary s1) s1
  let c := advancePt (s2.mgmt.device == .running) s2.clock
  { s2 with clock := { c with k := c.k + 1 } }

/-- Time passes through the milliframe boundaries left in the frame in progress. -/
def lastMilliframe : Nat → State → State
  | 0, s => s
  | fuel + 1, s => if s.clock.k < 999 then lastMilliframe fuel (milliframe s) else s

/-! ### House frame boundaries -/

/-- The silence timers at a house frame boundary (R117). DESIGN CHOICE: a context whose counter comes to 0 is LOST at
its own SILENCE_EXPIRY, or when time next passes, and not yet here (log entry 34). -/
def frameSilence (s : State) : State := { s with contexts := s.contexts.map Context.countSilence }

/-- The frame-paced blocks act: scrubbing, silence timers and tick countdown in a run, then the tick lines
(R2, R18, R19, R59, R117). -/
def framePaced (s : State) : State :=
  frameLines
    (if s.mgmt.device = .running then frameTick (frameSilence (scrub s.settings.scrubRate s)) else s)

/-- The run begins: RUNNING with PT 0, the first tick due, countdown and lines reloaded (R3, R18, R22, R177). -/
def beginRun (s : State) : State :=
  restartLines { s with
    mgmt := { s.mgmt with device := .running }
    clock := { s.clock with pt := 0 }
    tick := { countdown := s.settings.tickInterval, due := s.settings.tickInterval != 0 }
    tables := { s.tables with walk := .idle } }

/-- STARTING waits for its first house frame boundary, the walk having ended (R177). -/
def runReady (s : State) : Bool := s.mgmt.device == .starting && s.tables.walk == .ended

/-- A new house frame begins at the present instant with PT `pt` in a run (R2): the run begins (R177), or the
frame-paced blocks act. -/
def beginFrame (pt : Nat) (s : State) : State :=
  let s1 := { s with clock := { s.clock with
    phase := 0, k := 0, hold := 0, period := (houseRate s.clock.params.rate).period
    pt := if s.mgmt.device = .running then pt else s.clock.pt } }
  if runReady s then beginRun s1 else framePaced s1

/-- Time passes to the house frame boundary that ends the frame in progress, k being 999 (R2, R3). -/
def endFrame (s : State) : State :=
  let s1 := settle s
  let s2 := passCycles (cyclesToBoundary s1) s1
  beginFrame (min (s2.clock.pt + 1) Config.maxPt) s2

/-- Time passes to the next house frame boundary, through the milliframes left before it. -/
def nextFrame (s : State) : State := endFrame (lastMilliframe 999 s)

/-! ### Step and hold (R16) -/

/-- The detail of REF_LOCK: step of 1000 - f, or hold of f (R13, Table 10-1). -/
def alignDetail (f : Nat) : List Byte :=
  if 500 ≤ f then [0] ++ beBytes 2 (1000 - f) else [1] ++ beBytes 2 f

/-- The next multiple of 1000 after a picture time, at most 2^48 - 1 (R3, R16). -/
def nextThousand (pt : Nat) : Nat := min (pt + (1000 - pt % 1000)) Config.maxPt

/-- The frame phase aligned at a pulse by a step or a hold (R16). -/
def align (s : State) : State :=
  if 500 ≤ s.clock.k then
    let s1 := settle s
    beginFrame (nextThousand s1.clock.pt) s1
  else
    { s with clock := { s.clock with
      phase := 0, k := 0
      hold := if s.mgmt.device = .running then s.clock.hold + s.clock.k else 0 } }

/-! ### The Reference Monitor (R12 to R14) -/

/-- A pulse is rejected as noise: less than half of R x P cycles after the last accepted one (R12). -/
def isNoise (s : State) : Bool :=
  match s.monitor.last with
  | some t => decide (2 * (s.clock.now - t) < pulsePeriod s.clock.params)
  | none => false

/-- An interval is good: within the rate tolerance of R x P (R13). -/
def intervalGood (p : ClockParams) (interval : Nat) : Bool :=
  decide (interval ≤ pulsePeriod p + p.tolerance) && decide (pulsePeriod p ≤ interval + p.tolerance)

/-- A good pulse that brings the good count to the lock count: LOCKED, aligned, REF_LOCK (R13). -/
def lockReference (s : State) : State :=
  let s1 := align { s with clock := { s.clock with state := .locked } }
  raise .refLock (alignDetail s.clock.k) { s1 with monitor := { s1.monitor with bad := 0 } }

/-- The judgment of an interval in SEEKING and HOLDOVER (R13). -/
def judgeInterval (interval : Nat) (s : State) : State :=
  let m := s.monitor
  if intervalGood s.clock.params interval then
    let s1 := { s with monitor := { m with good := m.good + 1, armed := true } }
    if s.clock.params.lockCount ≤ m.good + 1 then lockReference s1 else s1
  else
    let s1 := { s with monitor := { m with good := 0, armed := false } }
    if m.armed then raise .refRate (satBytes 4 interval) s1 else s1

/-- The phase error of a pulse: the cycles from the nearest house frame boundary, the earlier of two equally
near (R14). -/
def phaseError (c : HouseClock) : Int :=
  if 2 * c.phase ≤ c.period then c.phase else (c.phase : Int) - c.period

/-- The judgment of a pulse in LOCKED (R14). -/
def judgePhase (s : State) : State :=
  let m := s.monitor
  if |phaseError s.clock| ≤ s.clock.params.window then
    align { s with monitor := { m with bad := 0 } }
  else
    let s1 := { s with monitor := { m with bad := m.bad + 1 } }
    if s.clock.params.lossCount ≤ m.bad + 1 then loseReference 1 s1 else s1

/-- An accepted pulse: recorded, the missing timer restarted, then judged if it has an interval (R12). -/
def acceptPulse (s : State) : State :=
  let s1 := { s with monitor := { s.monitor with last := some s.clock.now, missing := true } }
  match s.monitor.last with
  | none => s1
  | some t =>
    if s.clock.state = .locked then judgePhase s1 else judgeInterval (s.clock.now - t) s1

/-- A reference pulse at the present MCLK cycle (R12). -/
def refPulse (s : State) : State :=
  if s.clock.state = .free then s
  else if isNoise s then { s with monitor := { s.monitor with noise := bump s.monitor.noise } }
  else acceptPulse s

/-! ### The commands -/

/-- A command that the part takes while it acts: with power and RESETn high (R170). -/
def whenAlive (f : State → State) (s : State) : Host.Outcome State Fault Refusal :=
  if s.alive then .next (f s) else .next s

/-- REFIN_PULSE (R12). -/
def execRefinPulse (s : State) : Host.Outcome State Fault Refusal := whenAlive refPulse s

/-- The missing timer's expiry falls no later than the next milliframe boundary. -/
def missingDue (s : State) : Option Nat :=
  match missingLeft s with
  | some left => if left ≤ cyclesToBoundary s then some left else none
  | none => none

/-- MISSING_TIMER_EXPIRY: time passes to the expiry, which takes place (R15); nothing happens while it is not
the next thing due (log entry 3). -/
def missingExpiry (s : State) : State :=
  match missingDue s with
  | some left => expireMissing (passCycles left (if left = 0 then s else settle s))
  | none => s

/-- MISSING_TIMER_EXPIRY (R15). -/
def execMissingTimerExpiry (s : State) : Host.Outcome State Fault Refusal := whenAlive missingExpiry s

/-- FRAME_BOUNDARY (R2). -/
def execFrameBoundary (s : State) : Host.Outcome State Fault Refusal := whenAlive nextFrame s

/-- The next milliframe boundary, through a frame boundary when k is 999. -/
def nextMilliframe (s : State) : State :=
  if s.clock.k < 999 then milliframe s else milliframe (endFrame s)

/-- MILLIFRAME_BOUNDARY (R3). -/
def execMilliframeBoundary (s : State) : Host.Outcome State Fault Refusal := whenAlive nextMilliframe s

/-- TICK_DUE (R18). -/
def execTickDue (s : State) : Host.Outcome State Fault Refusal := whenAlive makeTick s

/-- TICK_LINE_TOGGLE (R19). -/
def execTickLineToggle (line : Line) (s : State) : Host.Outcome State Fault Refusal :=
  match line with
  | .a => whenAlive toggleA s
  | .b => whenAlive toggleB s

/-- TICKB_CHAINED_TOGGLE (R20). -/
def execTickbChainedToggle (s : State) : Host.Outcome State Fault Refusal :=
  whenAlive (fun s => if s.lines.mode = .chained then toggleB s else s) s

/-- The slot of a command's operand. -/
def slotOf (n : Nat) : Option (Fin 128) := if h : n < 128 then some ⟨n, h⟩ else none

/-- SILENCE_EXPIRY (R117). -/
def execSilenceExpiry (slot : Nat) (s : State) : Host.Outcome State Fault Refusal :=
  whenAlive (fun s => match slotOf slot with
    | some i => expireSilence i s
    | none => s) s

/-- CLAP_DEADLINE (R160). -/
def execClapDeadline (take : Nat) (s : State) : Host.Outcome State Fault Refusal :=
  whenAlive (fun s => if clapDue s take then endClap take s else s) s

/-- TRANSIENT_DEADLINE (R161). -/
def execTransientDeadline (place : Nat) (s : State) : Host.Outcome State Fault Refusal :=
  whenAlive (expireTransient place) s

/-- VALIDATION_WALK_CHECK (R60). -/
def execValidationWalkCheck (s : State) : Host.Outcome State Fault Refusal := whenAlive walkCheck s

/-- VALIDATION_WALK_END (R60). -/
def execValidationWalkEnd (s : State) : Host.Outcome State Fault Refusal := whenAlive walkEnd s

/-- RUN_BEGIN: the first house frame boundary after the walk (R177). -/
def execRunBegin (s : State) : Host.Outcome State Fault Refusal :=
  whenAlive (fun s => if runReady s then nextFrame s else s) s

end Sys2Proof.Machine
end

