-- ==== Sys2Proof/Machine/Locate.lean ====
section
/-! DEFINITION. The Locate Unit (07): coverage (R129), the five locate and take requests (R132 to R138), their
service (R131) and STOPPED (R139). -/

namespace Sys2Proof.Machine

/-! ### Coverage (R129) -/

/-- The count at which an entry's segment ends: its end count, or the context's last count while it is open
(R129). -/
def segmentEndCount (s : State) (e : LogEntry) : Nat :=
  match e.ending with
  | some x => x.count
  | none => (s.ctx e.slot).lastCount

/-- The picture time at which an entry's segment ends: its end PT, or the current PT while it is open
(R129). -/
def segmentEndPt (s : State) (e : LogEntry) : Nat :=
  match e.ending with
  | some x => x.pt
  | none => s.clock.pt

/-- The segment's end lies before its anchor (R129). -/
def endsBeforeAnchor (s : State) (e : LogEntry) : Bool :=
  decide (countDiff (segmentEndCount s e) e.c0 < 0)

/-- An entry covers a picture time (R129). -/
def coversPt (s : State) (e : LogEntry) (h : Nat) : Bool :=
  if endsBeforeAnchor s e then h == e.pt0 && (e.ending.isSome || decide (e.pt0 ≤ s.clock.pt))
  else decide (e.pt0 ≤ h) && decide (h ≤ segmentEndPt s e)

/-- The counts from `c0` forward to `c`, across the wrap (R129). -/
def countsForward (c c0 : Nat) : Int := ((c : Int) - c0) % (Config.countModulus : Int)

/-- An entry covers a count (R129). -/
def coversCount (s : State) (e : LogEntry) (c : Nat) : Bool :=
  if endsBeforeAnchor s e then c == e.c0
  else decide (countsForward c e.c0 ≤ countsForward (segmentEndCount s e) e.c0)

/-- The entries of a slot, oldest first (R124). -/
def slotEntries (s : State) (slot : Fin 128) : List LogEntry :=
  s.log.entries.filter fun e => e.slot == slot

/-- The newest entry of a slot that covers a picture time (R133). -/
def newestAtPt (s : State) (slot : Fin 128) (h : Nat) : Option LogEntry :=
  ((slotEntries s slot).filter fun e => coversPt s e h).getLast?

/-- The newest entry of a slot that covers a count (R135). -/
def newestAtCount (s : State) (slot : Fin 128) (c : Nat) : Option LogEntry :=
  ((slotEntries s slot).filter fun e => coversCount s e c).getLast?

/-! ### Locate replies -/

/-- The place of an anchor reason among those of R124. -/
def reasonNumber : AnchorReason → Nat
  | .opened => 0 | .window => 1 | .jump => 2 | .slip => 3 | .resume => 4 | .clap => 5

/-- Sequence, reason and open generation of the entry used (R136). -/
def entryName (e : LogEntry) : List Byte :=
  beBytes 4 e.seq ++ [Config.unstatedCode .anchorReason (reasonNumber e.reason)] ++ beBytes 4 e.gen

/-- What a located answer carries of the entry used (R136). -/
def entryData (e : LogEntry) : List Byte :=
  entryName e ++ signedBytes 2 e.adjust ++
    [Config.unstatedCode .segmentOpen (if e.ending.isNone then 1 else 0)]

/-- A reply of one cell. -/
def oneCell (r : Request) (st : ReplyStatus) (data : List Byte) : List (List Byte) :=
  [replyPayload r st data]

/-- OK, or CLAMPED for a result with the clamp indication (R79). -/
def convertedStatus (v : Converted) : ReplyStatus := if v.clamped then .clamped else .ok

/-- The answer of LOCATE_TIME for a picture time that no entry covers (R134). -/
def uncoveredPt (s : State) (slot : Fin 128) (h : Nat) : ReplyStatus :=
  let lost := match (slotEntries s slot).head? with
    | some e => decide (h < e.pt0)
    | none => true
  if (s.ctx slot).trimmed && lost then .expired else .notCovered

/-- LOCATE_TIME of a slot (R133, R136). -/
def answerTime (r : Request) (slot : Fin 128) (h : Nat) (s : State) : List (List Byte) :=
  if s.clock.pt < h then oneCell r .future []
  else
    match newestAtPt s slot h with
    | none => oneCell r (uncoveredPt s slot h) []
    | some e =>
      match reverse (entryConversion s e) (ptHeld s) h with
      | none => oneCell r .range (entryName e)
      | some v => oneCell r (convertedStatus v) (beBytes 5 v.value ++ entryData e)

/-- LOCATE_COUNT of a slot (R135, R136). -/
def answerCount (r : Request) (slot : Fin 128) (c : Nat) (s : State) : List (List Byte) :=
  match newestAtCount s slot c with
  | none => oneCell r (if (s.ctx slot).trimmed then .expired else .notCovered) []
  | some e =>
    let v := forward (entryConversion s e) (ptHeld s) c
    oneCell r (convertedStatus v) (beBytes 6 v.value ++ houseLabelBytes s v.value ++ entryData e)

/-- The slot of a locate request's key: RANGE for a key out of range, NO_SOURCE for one absent (R132). -/
def locateKey (r : Request) (s : State) (found : Fin 128 → List (List Byte)) : List (List Byte) :=
  match r.key 0 with
  | none => oneCell r .range []
  | some k =>
    match s.lookup k with
    | none => oneCell r .noSource []
    | some slot => found slot

/-! ### Take replies (R138) -/

/-- The code of a row's role (R27). -/
def roleCode : SourceClass → Nat
  | .camera => 0 | .recorder => 1 | .plain => 2 | .slate => 3

/-- The code of a row's pairing status (R27). -/
def rowCode : RowStatus → Nat
  | .fixed => 0 | .pending => 1 | .paired => 2 | .unpaired => 3 | .disagree => 4

/-- The fourteen bytes of a take row (R27). -/
def rowBytes (x : TakeRow) : List Byte :=
  [byteOf x.slot, byteOf (roleCode x.role * 64 + rowCode x.status * 8 +
    (if x.count.isSome then 2 else 0) + (if x.delta.isSome then 1 else 0))] ++
    beBytes 4 x.gen ++ beBytes 5 (x.count.getD 0) ++ signedBytes 3 (x.delta.getD 0)

/-- Rows three by three (R138). -/
def rowCells : List TakeRow → List (List Byte)
  | a :: b :: c :: rest => (rowBytes a ++ rowBytes b ++ rowBytes c) :: rowCells rest
  | [a, b] => [rowBytes a ++ rowBytes b]
  | [a] => [rowBytes a]
  | [] => []

/-- The first cell's data of a take reply, after its part header (R138). -/
def takeBytes (t : Take) : List Byte :=
  beBytes 2 t.number ++ t.scene ++ beBytes 2 t.codeNumber ++ [byteOf t.group, byteOf t.slate] ++
    beBytes 6 t.clapPt ++ [flagByte t.labelDiff.isSome] ++ signedBytes 3 (t.labelDiff.getD 0) ++
    [Config.unstatedCode .takeStatus (if t.isOpen then 0 else 1), byteOf t.omitted,
      byteOf t.rows.length]

/-- The reply to a take request: the chosen take whole, or NO_ENTRY (R137, R138). -/
def answerTake (r : Request) (t : Option Take) : List (List Byte) :=
  match t with
  | none => oneCell r .noEntry []
  | some t => (withPartHeaders (takeBytes t :: rowCells t.rows)).map (replyPayload r .ok)

/-- The newest take that meets a condition (R137). -/
def newestTake (s : State) (p : Take → Bool) : Option Take := (s.pairing.takes.filter p).getLast?

/-! ### Service (R131) -/

/-- The oldest queued request of a kind begins its service when the Unit is free: its whole answer is fixed,
RANGE for a payload too short for its arguments (R131, R132). -/
def beginService (kind : Nat) (answer : Request → State → List (List Byte)) (s : State) : State :=
  match s.locate.service, s.locate.queue with
  | none, r :: _ =>
    if r.kind = kind then
      let a := if r.args.length < argNeed kind then oneCell r .range [] else answer r s
      { s with locate := { s.locate with service := some a } }
    else s
  | _, _ => s

/-- The beginning of a LOCATE_TIME service (R133). -/
def beginLocateTime : State → State :=
  beginService 26 fun r s => locateKey r s fun slot => answerTime r slot (r.arg 2 6) s

/-- The beginning of a LOCATE_COUNT service (R135). -/
def beginLocateCount : State → State :=
  beginService 27 fun r s => locateKey r s fun slot => answerCount r slot (r.arg 2 5) s

/-- The beginning of a TAKE_QUERY service (R137). -/
def beginTakeQuery : State → State :=
  beginService 28 fun r s => answerTake r (s.takeNumbered (r.arg 0 2))

/-- The beginning of a TAKE_FIND service (R137). -/
def beginTakeFind : State → State :=
  beginService 29 fun r s => answerTake r
    (newestTake s fun t => t.scene == field r.args 0 6 && t.codeNumber == r.arg 6 2)

/-- The beginning of a TAKE_AT service (R137). -/
def beginTakeAt : State → State :=
  beginService 30 fun r s => answerTake r (newestTake s fun t => decide (t.clapPt ≤ r.arg 0 6))

/-- The end of a service: the reply cells are made, the request leaves the queue, the Unit is free (R131). -/
def endService (s : State) : State :=
  match s.locate.service, s.locate.queue with
  | some a, r :: rest =>
    { joinReplies r.port r.origin a s with locate := { queue := rest, service := none } }
  | some _, [] => { s with locate := { s.locate with service := none } }
  | none, _ => s

/-- Every request in the locate queue ends STOPPED, in queue order (R139). -/
def stopLocate (s : State) : State :=
  { s.locate.queue.foldl (fun s r => replyNow r .stopped [] s) s with
    locate := { queue := [], service := none } }

/-- LOCATE_TIME (R133). -/
def execLocateTime (s : State) : Host.Outcome State Fault Refusal := whenAlive beginLocateTime s

/-- LOCATE_COUNT (R135). -/
def execLocateCount (s : State) : Host.Outcome State Fault Refusal := whenAlive beginLocateCount s

/-- TAKE_QUERY (R137). -/
def execTakeQuery (s : State) : Host.Outcome State Fault Refusal := whenAlive beginTakeQuery s

/-- TAKE_FIND (R137). -/
def execTakeFind (s : State) : Host.Outcome State Fault Refusal := whenAlive beginTakeFind s

/-- TAKE_AT (R137). -/
def execTakeAt (s : State) : Host.Outcome State Fault Refusal := whenAlive beginTakeAt s

/-- LOCATE_SERVICE_END (R131). -/
def execLocateServiceEnd (s : State) : Host.Outcome State Fault Refusal := whenAlive endService s

end Sys2Proof.Machine
end

