-- ==== Sys2Proof/Machine/Management.lean ====
section
/-! DEFINITION. The Management Unit's handling of requests (R172 to R175) and the requests that do not change
the device state or the tables: address (R169, R180), reading (R181, R182), parameters (R182), sources (R102,
R104, R106) and events (R191, R192). -/

namespace Sys2Proof.Machine

/-! ### Handling (R172, R173) -/

/-- What the taking of a request gives: the state, the reply status, and the data of each reply cell. -/
structure Verdict where
  after : State
  status : ReplyStatus
  data : List (List Byte)
deriving DecidableEq, Repr

/-- A request refused: nothing changes (R172). -/
def refuse (st : ReplyStatus) (s : State) : Verdict := ⟨s, st, [[]]⟩

/-- A request refused with data: nothing changes (R48, R172). -/
def refuseWith (st : ReplyStatus) (data : List Byte) (s : State) : Verdict := ⟨s, st, [data]⟩

/-- A request accepted with a reply of one cell. -/
def accept (data : List Byte) (s : State) : Verdict := ⟨s, .ok, [data]⟩

/-- A request is accepted: OK or CLAMPED. -/
def Verdict.accepted (v : Verdict) : Bool := v.status == .ok || v.status == .clamped

/-- The refusal of a kind that the device state does not accept: BUSY in STARTING, STATE elsewhere (R172). -/
def stateRefusal (s : State) : ReplyStatus := if s.mgmt.device = .starting then .busy else .state

/-- The judgment of a request at its taking, in the order of R172. -/
def judge (served : DeviceState → Bool) (act : Request → State → Verdict) (r : Request) (s : State) :
    Verdict :=
  if r.args.length < argNeed r.kind then refuseWith .range (refusalData r) s
  else if served s.mgmt.device then act r s
  else refuseWith (stateRefusal s) (refusalData r) s

/-- The oldest request, of a kind, begins its handling (R173): judged, acted on, its whole reply fixed. A
broadcast has no reply, and one not accepted is discarded at its taking (R174). -/
def beginHandling (isKind : Nat → Bool) (served : DeviceState → Bool)
    (act : Request → State → Verdict) (s : State) : State :=
  match s.mgmt.handling, s.mgmt.inbox with
  | none, r :: rest =>
    if isKind r.kind then
      let v := judge served act r s
      if r.broadcast then
        if v.accepted then { v.after with mgmt := { v.after.mgmt with handling := some [] } }
        else { s with mgmt := { s.mgmt with inbox := rest } }
      else
        { v.after with mgmt := { v.after.mgmt with
          handling := some (v.data.map (replyPayload r v.status)) } }
    else s
  | _, _ => s

/-- The end of a handling: the reply cells are made, the request leaves the inbox, the Unit is free (R173). -/
def endHandling (s : State) : State :=
  match s.mgmt.handling, s.mgmt.inbox with
  | some a, r :: rest =>
    let s1 := joinReplies r.port r.origin a s
    { s1 with mgmt := { s1.mgmt with inbox := rest, handling := none } }
  | some _, [] => { s with mgmt := { s.mgmt with handling := none } }
  | none, _ => s

/-- The end of a handling that is no boot record write: SAVE_ADDRESS lasts until the write ends (R169). -/
def handlingEnd (s : State) : State := if s.boot.writing.isSome then s else endHandling s

/-- MGMT_HANDLING_END (R173). -/
def execMgmtHandlingEnd (s : State) : Host.Outcome State Fault Refusal := whenAlive handlingEnd s

/-! ### The states that serve a kind (Table 9-3) -/

/-- Served in CONFIGURING only. -/
def inConfiguring (d : DeviceState) : Bool := d == .configuring

/-- Served in CONFIGURING and RUNNING. -/
def inConfiguringRunning (d : DeviceState) : Bool := d == .configuring || d == .running

/-- Served in RUNNING only. -/
def inRunning (d : DeviceState) : Bool := d == .running

/-- Served in ADDRESSING and CONFIGURING. -/
def inAddressingConfiguring (d : DeviceState) : Bool := d == .addressing || d == .configuring

/-- Served in ADDRESSING, CONFIGURING and RUNNING. -/
def identifyServed (d : DeviceState) : Bool := d == .addressing || inConfiguringRunning d

/-! ### Address (R169, R180) -/

/-- SET_ADDRESS (R171, R180). The OK reply carries the new address in CONFIGURING as in ADDRESSING, DEDUCED: R180
names no data (log entry 32). -/
def actSetAddress (r : Request) (s : State) : Verdict :=
  let a := r.arg 0 1
  if 1 ≤ a ∧ a ≤ 254 then
    accept [byteOf a] { s with mgmt := { s.mgmt with address := some a, device := .configuring } }
  else refuse .range s

/-- SAVE_ADDRESS: the stored check is spoiled and the write begins (R169). -/
def actSaveAddress (_ : Request) (s : State) : Verdict :=
  accept [s.ownByte]
    { s with boot := { s.boot with checkGood := false, writing := some (s.mgmt.address.getD 0) } }

/-- The end of the boot record write: address and fresh check stand in the record, and the reply is made
(R169). -/
def bootWriteEnd (s : State) : State :=
  match s.boot.writing with
  | some a =>
    endHandling { s with boot := { s.boot with address := a, checkGood := true, writing := none } }
  | none => s

/-- BOOT_RECORD_WRITE_END (R169). -/
def execBootRecordWriteEnd (s : State) : Host.Outcome State Fault Refusal := whenAlive bootWriteEnd s

/-! ### Reading the part (R181) -/

/-- The place of a device state in Table 9-1. -/
def deviceNumber : DeviceState → Nat
  | .boot => 0 | .addressing => 1 | .configuring => 2 | .starting => 3 | .running => 4

/-- The byte of the device state in a reply; its code is unstated. -/
def deviceByte (s : State) : Byte := Config.unstatedCode .deviceState (deviceNumber s.mgmt.device)

/-- IDENTIFY (R181). -/
def actIdentify (_ : Request) (s : State) : Verdict :=
  accept ([Config.family] ++ beBytes 2 540 ++ [Config.revision, deviceByte s, s.ownByte,
    byteOf s.boot.address, Config.unstatedCode .bootStatus (if s.boot.readGood then 1 else 0)]) s

/-- The eleven counters of a port (R42, R181). -/
def counterFields (c : Counters) : List (List Byte) :=
  [c.arrived, c.damaged, c.consumed, c.broadcastTaken, c.shortMarks, c.alreadyStamped,
    c.forwardedOut, c.overrun, c.replyDrop, c.tickDrop, c.noticeDrop].map (beBytes 4)

/-- The place of a context state in Table 6-1. -/
def contextNumber : ContextState → Nat
  | .closed => 0 | .acquiring => 1 | .locked => 2 | .drifting => 3 | .lost => 4

/-- The captured clock values in the order of Table 9-4 (R1, R182). -/
def clockValues (p : ClockParams) : List Nat :=
  [p.rate, if p.dropFrame then 1 else 0, if p.externalRef then 1 else 0, p.divisor, p.tolerance, p.window,
    p.lockCount, p.lossCount]

/-- What READ_STATUS shows of the contexts' states (R116) and of the captured clock values (R182): bytes in a form that
no rule gives, at most the 25 that the first cell holds beside R181's general values. DESIGN CHOICE (log entry 31). -/
def shownUnlisted (s : State) : List Byte :=
  (Config.unlistedStatus (allSlots.map fun i => contextNumber (s.ctx i).state) (clockValues s.clock.params)).take 25

/-- The general values of READ_STATUS: those that R181 lists, in its order, and after them what R116 and R182 have
show there, which R181's list does not name. DESIGN CHOICE (log entry 31): that it stands there, in a free value. -/
def generalStatus (s : State) : List Byte :=
  [deviceByte s, s.ownByte] ++ beBytes 6 s.clock.pt ++ houseLabelBytes s s.clock.pt ++
    [clockCode s.clock.state] ++ beBytes 4 s.monitor.noise ++
    [byteOf s.portS.queue.length, byteOf s.portP.queue.length, byteOf s.mgmt.inbox.length,
      byteOf s.locate.queue.length] ++ beBytes 2 s.log.entries.length ++
    [byteOf s.pairing.takes.length, byteOf s.pairing.claps.length, byteOf s.pairing.held.length] ++
    shownUnlisted s

/-- The field codes in the defaulted-field list (R183). -/
def defaultedCodes (s : State) : List Nat :=
  (List.range fieldCount).filter fun c => if h : c < fieldCount then s.defaulted[c] else false

/-- READ_STATUS: four cells (R181). -/
def actReadStatus (_ : Request) (s : State) : Verdict :=
  ⟨s, .ok, withPartHeaders [generalStatus s, (counterFields s.portS.counters).flatten,
    (counterFields s.portP.counters).flatten, maskBytes 8 (defaultedCodes s)]⟩

/-! ### Run Parameter record (R182) -/

/-- WRITE_PARAMS (R182). -/
def actWriteParams (r : Request) (s : State) : Verdict :=
  let xs := paramPairs r.args
  if xs.all fun x => x.1 < fieldCount then accept [] (writeFields xs s) else refuse .range s

/-- READ_PARAMS (R27, R182). -/
def actReadParams (_ : Request) (s : State) : Verdict :=
  ⟨s, .ok, packReply ((List.range fieldCount).map fun c => beBytes 4 (s.param c))⟩

/-- CLOCK_APPLY (R182). -/
def actClockApply (_ : Request) (s : State) : Verdict :=
  accept (maskBytes 1 (clockInvalid s)) (raiseDefaulted (clockInvalid s) (captureClock s))

/-! ### Sources (R102, R104, R106) -/

/-- OPEN (R104). -/
def actOpen (r : Request) (s : State) : Verdict :=
  match r.slot 0 with
  | none => refuse .range s
  | some i =>
    if (s.ctx i).isOpen then refuse .state s
    else
      match validSource s i with
      | none => refuse .noEntry s
      | some e =>
        let s1 := openContext i e s
        accept (beBytes 4 (s1.ctx i).gen) s1

/-- CLOSE (R106). -/
def actClose (r : Request) (s : State) : Verdict :=
  match r.slot 0 with
  | none => refuse .range s
  | some i =>
    if (s.ctx i).isOpen then accept (beBytes 4 (s.ctx i).gen) (closeContext i s)
    else refuse .state s

/-- REOPEN (R106). -/
def actReopen (r : Request) (s : State) : Verdict :=
  match r.slot 0 with
  | none => refuse .range s
  | some i =>
    match validSource s i with
    | none => refuse .noEntry s
    | some e =>
      let s1 := openContext i e (if (s.ctx i).isOpen then closeContext i s else s)
      accept (beBytes 4 (s1.ctx i).gen) s1

/-- The code of a source class (R27, Table 3-2). -/
def classCode : SourceClass → Byte
  | .camera => 0 | .recorder => 1 | .slate => 2 | .plain => 3

/-- The fields of a Source Table entry in the order and widths of Table 2-7 (R27, R54). DESIGN CHOICE (log entry 36):
auto-open yes is written as 1, whichever number other than 0 a write gave it (R51). -/
def sourceFields (e : SourceEntry) : List (List Byte) :=
  [(e.tag ++ List.replicate 8 0).take 8, [classCode e.cls], beBytes 4 e.rn, beBytes 2 e.rd,
    beBytes 3 e.stride, beBytes 3 e.latency, beBytes 2 e.silenceLimit, beBytes 1 e.gapLimit,
    beBytes 2 e.window, beBytes 2 e.gain, beBytes 2 e.lockTol, beBytes 3 e.slipTol,
    beBytes 3 e.trimLimit, signedBytes 3 e.initialTrim, beBytes 2 e.adjustLimit, beBytes 1 e.group,
    [flagByte e.autoOpen]]

/-- Fields that may be absent as a whole: a byte 1 before the first of them, or a byte 0 and every field
written as 0 (R27). -/
def optionalFields (present : Bool) (fs : List (List Byte)) : List (List Byte) :=
  match if present then fs else fs.map fun f => f.map fun _ => 0 with
  | [] => [[flagByte present]]
  | f :: rest => (flagByte present :: f) :: rest

/-- Every field of a context as READ_CONTEXT returns it (R102). DEDUCED (log entry 37): the anchor is one field that may
be absent, c0, pt0 and sequence in Table 6-1's order behind one presence byte; the codes of the two flags are free
values (log entry 5). -/
def contextFields (c : Context) : List (List Byte) :=
  let a := c.anchor.getD ⟨0, 0, 0⟩
  [[Config.unstatedCode .contextState (contextNumber c.state)]] ++
    optionalFields c.work.isSome (sourceFields c.entry) ++ [beBytes 4 c.gen] ++
    optionalFields c.anchor.isSome [beBytes 5 a.c0, beBytes 6 a.pt0, beBytes 4 a.seq] ++
    [signedBytes 3 c.trim, signedBytes 2 c.adjust, signedBytes 3 c.effective, beBytes 5 c.lastCount,
      beBytes 6 c.lastArrival, beBytes 6 c.lastConverted, beBytes 1 c.windowCount,
      signedBytes 4 c.windowSum, beBytes 2 c.silence, beBytes 4 c.marks, beBytes 4 c.missed,
      beBytes 4 c.duplicates, beBytes 4 c.slips, beBytes 4 c.jumps,
      [Config.unstatedCode .staleFlag (if c.stale then 1 else 0)],
      [Config.unstatedCode .trimmedFlag (if c.trimmed then 1 else 0)]]

/-- READ_CONTEXT (R102). -/
def actReadContext (r : Request) (s : State) : Verdict :=
  match r.slot 0 with
  | none => refuse .range s
  | some i => ⟨s, .ok, packReply (contextFields (s.ctx i))⟩

/-! ### Events (R191, R192) -/

/-- The set of event classes that a request names; none when it names a code above 17 (R191). -/
def Request.classSet (r : Request) : Option Nat :=
  if r.arg 0 3 < 262144 then some (r.arg 0 3) else none

/-- The class of index `i` put back to its cleared state when the set names it (R191). -/
def clearClass (set : Nat) (i : Fin 18) (e : EventState) : EventState :=
  if set.testBit i then {} else e

/-- The classes of a set cleared, and FAULTn re-evaluated (R191). -/
def clearClasses (set : Nat) (s : State) : State :=
  State.evalFault { s with
    events := (List.finRange 18).foldl
      (fun (v : Vector EventState 18) (i : Fin 18) => v.set i (clearClass set i s.events[i])) s.events }

/-- The counts held just before a clear, 0 outside the set (R191). -/
def clearedCounts (set : Nat) (s : State) : List Byte :=
  ((List.finRange 18).map fun i : Fin 18 =>
    beBytes 2 (if set.testBit i then s.events[i].count else 0)).flatten

/-- CLEAR_EVENTS (R191). -/
def actClearEvents (r : Request) (s : State) : Verdict :=
  match r.classSet with
  | none => refuse .range s
  | some set => accept (clearedCounts set s) (clearClasses set s)

/-- The thirteen bytes of a class record (R27). -/
def classRecord (s : State) (i : Fin 18) : List Byte :=
  let e := s.events[i]
  let d := e.detail.getD []
  [byteOf i, byteOf ((if e.flag then 128 else 0) + (if s.alarm i then 64 else 0) + s.level i * 16 +
    d.length)] ++ beBytes 2 e.count ++ (d ++ List.replicate 9 0).take 9

/-- Class records four by four (R192). -/
def recordCells : List (List Byte) → List (List Byte)
  | a :: b :: c :: d :: rest => (a ++ b ++ c ++ d) :: recordCells rest
  | [a, b, c] => [a ++ b ++ c]
  | [a, b] => [a ++ b]
  | [a] => [a]
  | [] => []

/-- The set of classes whose flags are set (R192). -/
def flagSet (s : State) : List Nat :=
  ((List.finRange 18).filter fun i : Fin 18 => s.events[i].flag).map Fin.val

/-- READ_EVENTS (R192). -/
def actReadEvents (r : Request) (s : State) : Verdict :=
  match r.classSet with
  | none => refuse .range s
  | some set =>
    let records := ((List.finRange 18).filter fun i : Fin 18 => set.testBit i).map (classRecord s)
    ⟨s, .ok, withPartHeaders
      ((Config.unstatedCode .faultLevel (if s.faultn then 1 else 0) :: maskBytes 3 (flagSet s)) ::
        recordCells records)⟩

/-! ### The beginnings and the commands -/

/-- A request kind of one code. -/
def isCode (code kind : Nat) : Bool := kind == code

/-- SET_ADDRESS begins (R171, R180). -/
def beginSetAddress : State → State := beginHandling (isCode 1) inAddressingConfiguring actSetAddress
/-- IDENTIFY begins (R181). -/
def beginIdentify : State → State := beginHandling (isCode 2) identifyServed actIdentify
/-- SAVE_ADDRESS begins (R169). -/
def beginSaveAddress : State → State := beginHandling (isCode 4) inConfiguring actSaveAddress
/-- CLOCK_APPLY begins (R182). -/
def beginClockApply : State → State := beginHandling (isCode 5) inConfiguring actClockApply
/-- WRITE_PARAMS begins (R182). -/
def beginWriteParams : State → State := beginHandling (isCode 17) inConfiguringRunning actWriteParams
/-- READ_PARAMS begins (R182). -/
def beginReadParams : State → State := beginHandling (isCode 18) inConfiguringRunning actReadParams
/-- OPEN begins (R104). -/
def beginOpen : State → State := beginHandling (isCode 19) inRunning actOpen
/-- CLOSE begins (R106). -/
def beginClose : State → State := beginHandling (isCode 20) inRunning actClose
/-- REOPEN begins (R106). -/
def beginReopen : State → State := beginHandling (isCode 21) inRunning actReopen
/-- READ_CONTEXT begins (R102). -/
def beginReadContext : State → State := beginHandling (isCode 22) inConfiguringRunning actReadContext
/-- READ_STATUS begins (R181). -/
def beginReadStatus : State → State := beginHandling (isCode 23) inConfiguringRunning actReadStatus
/-- READ_EVENTS begins (R192). -/
def beginReadEvents : State → State := beginHandling (isCode 24) inConfiguringRunning actReadEvents
/-- CLEAR_EVENTS begins (R191). -/
def beginClearEvents : State → State := beginHandling (isCode 25) inConfiguringRunning actClearEvents
/-- A request of a kind that names none is refused RANGE (R172). -/
def beginUnknown : State → State :=
  beginHandling isUnknownKind (fun _ => true) fun _ s => refuse .range s

/-- SET_ADDRESS (R180). -/
def execSetAddress (s : State) : Host.Outcome State Fault Refusal := whenAlive beginSetAddress s
/-- IDENTIFY (R181). -/
def execIdentify (s : State) : Host.Outcome State Fault Refusal := whenAlive beginIdentify s
/-- SAVE_ADDRESS (R169). -/
def execSaveAddress (s : State) : Host.Outcome State Fault Refusal := whenAlive beginSaveAddress s
/-- CLOCK_APPLY (R182). -/
def execClockApply (s : State) : Host.Outcome State Fault Refusal := whenAlive beginClockApply s
/-- WRITE_PARAMS (R182). -/
def execWriteParams (s : State) : Host.Outcome State Fault Refusal := whenAlive beginWriteParams s
/-- READ_PARAMS (R182). -/
def execReadParams (s : State) : Host.Outcome State Fault Refusal := whenAlive beginReadParams s
/-- OPEN (R104). -/
def execOpenSource (s : State) : Host.Outcome State Fault Refusal := whenAlive beginOpen s
/-- CLOSE (R106). -/
def execCloseSource (s : State) : Host.Outcome State Fault Refusal := whenAlive beginClose s
/-- REOPEN (R106). -/
def execReopenSource (s : State) : Host.Outcome State Fault Refusal := whenAlive beginReopen s
/-- READ_CONTEXT (R102). -/
def execReadContext (s : State) : Host.Outcome State Fault Refusal := whenAlive beginReadContext s
/-- READ_STATUS (R181). -/
def execReadStatus (s : State) : Host.Outcome State Fault Refusal := whenAlive beginReadStatus s
/-- READ_EVENTS (R192). -/
def execReadEvents (s : State) : Host.Outcome State Fault Refusal := whenAlive beginReadEvents s
/-- CLEAR_EVENTS (R191). -/
def execClearEvents (s : State) : Host.Outcome State Fault Refusal := whenAlive beginClearEvents s
/-- UNKNOWN_REQUEST (R172). -/
def execUnknownRequest (s : State) : Host.Outcome State Fault Refusal := whenAlive beginUnknown s

end Sys2Proof.Machine
end

