-- ==== Sys2Proof/Machine/TableRequests.lean ====
section
/-! DEFINITION. The table requests (03): MAP, UNMAP, READ_MAP (R48 to R50), WRITE_SOURCE, READ_SOURCE (R51 to
R54), WRITE_GROUP, READ_GROUP (R55 to R57) and INJECT (R61), each judged in the order of R45. -/

namespace Sys2Proof.Machine

/-- A slot's context is in live use: open, in RUNNING (R45). -/
def slotLive (s : State) (slot : Fin 128) : Bool :=
  s.mgmt.device == .running && (s.ctx slot).isOpen

/-- The byte of an entry status in a reply; its code is unstated. -/
def entryStatusByte (damaged : Bool) : Byte :=
  Config.unstatedCode .entryStatus (if damaged then 2 else 1)

/-! ### The Stream Map -/

/-- The new entry of an accepted MAP, and the reply's key, slot and position (R48). -/
def writeMap (k : Key) (slot : Fin 128) (i : Fin 256) (s : State) : Verdict :=
  accept (keyBytes k ++ [byteOf slot, byteOf i]) (s.setMap i (fresh ⟨k, slot⟩))

/-- MAP of a key that an entry already has (R48, key present). -/
def remapKey (k : Key) (slot : Fin 128) (i : Fin 256) (s : State) : Verdict :=
  let oldLive := match s.mapAt i with
    | some e => slotLive s e.content.slot
    | none => false
  if oldLive || slotLive s slot then refuseWith .live (keyBytes k) s
  else if s.slotTaken k slot then refuseWith .slotTaken (keyBytes k) s
  else writeMap k slot i s

/-- MAP of a key that no entry has (R48, key absent). -/
def mapNewKey (k : Key) (slot : Fin 128) (s : State) : Verdict :=
  if slotLive s slot then refuseWith .live (keyBytes k) s
  else
    match s.freePosition k with
    | none => refuseWith .setFull (keyBytes k) s
    | some i =>
      if s.slotTaken k slot then refuseWith .slotTaken (keyBytes k) s else writeMap k slot i s

/-- MAP (R48). -/
def actMap (r : Request) (s : State) : Verdict :=
  match r.key 0, r.slot 2 with
  | some k, some slot =>
    match s.keyPosition k with
    | some i => remapKey k slot i s
    | none => mapNewKey k slot s
  | _, _ => refuseWith .range (refusalData r) s

/-- A request about the entry of a key: RANGE for a key out of range, NO_ENTRY for one absent (R49, R50). -/
def withMapEntry (r : Request) (s : State) (f : Key → Fin 256 → Stored MapEntry → Verdict) : Verdict :=
  match r.key 0 with
  | none => refuse .range s
  | some k =>
    match s.keyPosition k with
    | none => refuse .noEntry s
    | some i =>
      match s.mapAt i with
      | none => refuse .noEntry s
      | some e => f k i e

/-- UNMAP (R49). -/
def actUnmap (r : Request) (s : State) : Verdict :=
  withMapEntry r s fun k i e =>
    if slotLive s e.content.slot then refuse .live s
    else accept (keyBytes k ++ [byteOf e.content.slot]) (s.setMap i none)

/-- READ_MAP (R50). -/
def actReadMap (r : Request) (s : State) : Verdict :=
  withMapEntry r s fun _ i e =>
    accept [byteOf e.content.slot, byteOf i, entryStatusByte e.damaged] s

/-! ### The Source Table -/

/-- The source class of a code 0 to 3 (R27). -/
def classOf : Nat → SourceClass
  | 0 => .camera
  | 1 => .recorder
  | 2 => .slate
  | _ => .plain

/-- The fields that WRITE_SOURCE carries, as written (Table 2-7); auto-open is 0 for no, else yes (R51). DESIGN CHOICE
(log entry 36): which number other than 0 it was is not kept, and it never counts as a changed field. -/
def Request.source (r : Request) : SourceEntry :=
  { tag := field r.args 1 8, cls := classOf (r.arg 9 1), rn := r.arg 10 4, rd := r.arg 14 2
    stride := r.arg 16 3, latency := r.arg 19 3, silenceLimit := r.arg 22 2, gapLimit := r.arg 24 1
    window := r.arg 25 2, gain := r.arg 27 2, lockTol := r.arg 29 2, slipTol := r.arg 31 3
    trimLimit := r.arg 34 3, initialTrim := beInt 3 (field r.args 37 3), adjustLimit := r.arg 40 2
    group := r.arg 42 1, autoOpen := r.arg 43 1 != 0 }

/-- The five structural fields lie in their ranges (R51, Table 3-2). -/
def structuralGood (r : Request) : Bool :=
  let e := r.source
  decide (r.arg 9 1 ≤ 3) && decide (1 ≤ e.rn ∧ e.rn ≤ 200000000) &&
    decide (e.rd = 1000 ∨ e.rd = 1001) && decide (1 ≤ e.stride ∧ e.stride ≤ 1048576) &&
    decide (e.group ≤ 16)

/-- A value clamped into a range (R52). -/
def clampTo (lo hi n : Nat) : Nat := max lo (min n hi)

/-- A tag character outside 32 to 126 is stored as a space (R52). -/
def tagChar (b : Byte) : Byte := if 32 ≤ b.toNat ∧ b.toNat ≤ 126 then b else 32

/-- An entry as stored: its tuning fields clamped, lock tolerance before slip tolerance and trim limit before
initial trim (R52). -/
def clampedSource (w : SourceEntry) : SourceEntry :=
  let lock := clampTo 1 1000 w.lockTol
  let limit := min w.trimLimit 500000
  { w with
    tag := w.tag.map tagChar, latency := min w.latency 100000
    silenceLimit := clampTo 1 1000 w.silenceLimit, gapLimit := clampTo 1 64 w.gapLimit
    window := clampTo 2 256 w.window, gain := min w.gain 10000, lockTol := lock
    slipTol := clampTo (lock + 1) 100000 w.slipTol, trimLimit := limit
    initialTrim := clampTrim limit w.initialTrim, adjustLimit := min w.adjustLimit 10000 }

/-- The positions in Table 3-2 of the fields stored with another value than written (R52). -/
def changedFields (w e : SourceEntry) : List Nat :=
  [(0, w.tag == e.tag), (5, w.latency == e.latency), (6, w.silenceLimit == e.silenceLimit),
    (7, w.gapLimit == e.gapLimit), (8, w.window == e.window), (9, w.gain == e.gain),
    (10, w.lockTol == e.lockTol), (11, w.slipTol == e.slipTol), (12, w.trimLimit == e.trimLimit),
    (13, w.initialTrim == e.initialTrim), (14, w.adjustLimit == e.adjustLimit)].filterMap
    fun x : Nat × Bool => if x.2 then none else some x.1

/-- The verdict of a write: CLAMPED with the list of changed fields in `w` bytes, or OK (R27, R52, R55). -/
def writeVerdict (w : Nat) (changed : List Nat) (s : State) : Verdict :=
  if changed = [] then accept [] s else ⟨s, .clamped, [maskBytes w changed]⟩

/-- WRITE_SOURCE (R51 to R53). -/
def actWriteSource (r : Request) (s : State) : Verdict :=
  match r.slot 0 with
  | none => refuse .range s
  | some i =>
    if slotLive s i then refuse .live s
    else if structuralGood r then
      let e := clampedSource r.source
      writeVerdict 3 (changedFields r.source e) (s.setSource i (fresh e))
    else refuse .range s

/-- READ_SOURCE (R54). -/
def actReadSource (r : Request) (s : State) : Verdict :=
  match r.slot 0 with
  | none => refuse .range s
  | some i =>
    match s.sourceAt i with
    | none => refuse .noEntry s
    | some e => ⟨s, .ok, packReply (sourceFields e.content ++ [[entryStatusByte e.damaged]])⟩

/-! ### The Group Table -/

/-- The place of the group that a request names, 1 to 16 (R45). -/
def Request.groupPlace (r : Request) : Option (Fin 16) := Machine.groupPlace (r.arg 0 1)

/-- The fields that WRITE_GROUP carries, as written (Table 2-7). -/
def Request.group (r : Request) : GroupEntry :=
  { pairingWindow := r.arg 1 3, rollingLimit := r.arg 4 2, stepThreshold := r.arg 6 2
    policy := if r.arg 8 1 = 0 then .step else .report, labelTol := r.arg 9 1 }

/-- A group entry as stored, its tuning fields clamped (R55). -/
def clampedGroup (w : GroupEntry) : GroupEntry :=
  { w with
    pairingWindow := clampTo 1 240000 w.pairingWindow, rollingLimit := clampTo 1 1000 w.rollingLimit
    stepThreshold := min w.stepThreshold 1000, labelTol := min w.labelTol 100 }

/-- The positions in Table 3-3 of the fields stored with another value than written (R55). -/
def changedGroup (w e : GroupEntry) : List Nat :=
  [(0, w.pairingWindow == e.pairingWindow), (1, w.rollingLimit == e.rollingLimit),
    (2, w.stepThreshold == e.stepThreshold), (4, w.labelTol == e.labelTol)].filterMap
    fun x : Nat × Bool => if x.2 then none else some x.1

/-- A group is in live use: RUNNING with a pending clap of it (R56). -/
def groupLive (s : State) (g : Nat) : Bool :=
  s.mgmt.device == .running && s.pairing.claps.any fun c => c.group == g

/-- WRITE_GROUP (R55, R56). -/
def actWriteGroup (r : Request) (s : State) : Verdict :=
  match r.groupPlace with
  | none => refuse .range s
  | some i =>
    if groupLive s (i + 1) then refuse .live s
    else if r.arg 8 1 ≤ 1 then
      let e := clampedGroup r.group
      writeVerdict 1 (changedGroup r.group e) (s.setGroup i (fresh e))
    else refuse .range s

/-- The code of a group policy (R27, Table 3-3). -/
def policyCode : GroupPolicy → Byte
  | .step => 0
  | .report => 1

/-- READ_GROUP (R57). -/
def actReadGroup (r : Request) (s : State) : Verdict :=
  match r.groupPlace with
  | none => refuse .range s
  | some i =>
    match s.tables.group[i] with
    | none => refuse .noEntry s
    | some e =>
      accept (beBytes 3 e.content.pairingWindow ++ beBytes 2 e.content.rollingLimit ++
        beBytes 2 e.content.stepThreshold ++ [policyCode e.content.policy] ++
        beBytes 1 e.content.labelTol ++ [entryStatusByte e.damaged]) s

/-! ### INJECT -/

/-- INJECT on the entry that its table and index name: NO_ENTRY for an EMPTY one (R61). -/
def injectInto {α : Type} (e : Option (Stored α)) (put : Option (Stored α) → State) (s : State) :
    Verdict :=
  match e with
  | none => refuse .noEntry s
  | some x => accept [] (put (spoil x))

/-- INJECT (R61). -/
def actInject (r : Request) (s : State) : Verdict :=
  let n := r.arg 1 1
  match r.arg 0 1 with
  | 0 =>
    if h : n < 256 then injectInto (s.mapAt ⟨n, h⟩) (s.setMap ⟨n, h⟩) s else refuse .range s
  | 1 =>
    if h : n < 128 then injectInto (s.sourceAt ⟨n, h⟩) (s.setSource ⟨n, h⟩) s else refuse .range s
  | 2 =>
    match groupPlace n with
    | some i => injectInto s.tables.group[i] (s.setGroup i) s
    | none => refuse .range s
  | _ => refuse .range s

/-! ### The beginnings and the commands -/

/-- MAP begins (R48). -/
def beginMap : State → State := beginHandling (isCode 9) inConfiguringRunning actMap
/-- UNMAP begins (R49). -/
def beginUnmap : State → State := beginHandling (isCode 10) inConfiguringRunning actUnmap
/-- READ_MAP begins (R50). -/
def beginReadMap : State → State := beginHandling (isCode 11) inConfiguringRunning actReadMap
/-- WRITE_SOURCE begins (R51). -/
def beginWriteSource : State → State := beginHandling (isCode 12) inConfiguringRunning actWriteSource
/-- READ_SOURCE begins (R54). -/
def beginReadSource : State → State := beginHandling (isCode 13) inConfiguringRunning actReadSource
/-- WRITE_GROUP begins (R55). -/
def beginWriteGroup : State → State := beginHandling (isCode 14) inConfiguringRunning actWriteGroup
/-- READ_GROUP begins (R57). -/
def beginReadGroup : State → State := beginHandling (isCode 15) inConfiguringRunning actReadGroup
/-- INJECT begins (R61). -/
def beginInject : State → State := beginHandling (isCode 16) inConfiguringRunning actInject

/-- MAP (R48). -/
def execMapKey (s : State) : Host.Outcome State Fault Refusal := whenAlive beginMap s
/-- UNMAP (R49). -/
def execUnmapKey (s : State) : Host.Outcome State Fault Refusal := whenAlive beginUnmap s
/-- READ_MAP (R50). -/
def execReadMap (s : State) : Host.Outcome State Fault Refusal := whenAlive beginReadMap s
/-- WRITE_SOURCE (R51). -/
def execWriteSource (s : State) : Host.Outcome State Fault Refusal := whenAlive beginWriteSource s
/-- READ_SOURCE (R54). -/
def execReadSource (s : State) : Host.Outcome State Fault Refusal := whenAlive beginReadSource s
/-- WRITE_GROUP (R55). -/
def execWriteGroup (s : State) : Host.Outcome State Fault Refusal := whenAlive beginWriteGroup s
/-- READ_GROUP (R57). -/
def execReadGroup (s : State) : Host.Outcome State Fault Refusal := whenAlive beginReadGroup s
/-- INJECT (R61). -/
def execInject (s : State) : Host.Outcome State Fault Refusal := whenAlive beginInject s

end Sys2Proof.Machine
end

