-- ==== Sys2Proof/Machine/Runs.lean ====
section
/-! DEFINITION. The requests that change the device state (09, section 9.5): RUN (R176), HALT (R177, R178),
CLEAR (R179) and FORGET (R180). -/

namespace Sys2Proof.Machine

/-- Served in STARTING and RUNNING (Table 9-3, HALT). -/
def inStartingRunning (d : DeviceState) : Bool := d == .starting || d == .running

/-- Served in CONFIGURING, STARTING and RUNNING (Table 9-3, CLEAR). -/
def clearServed (d : DeviceState) : Bool := d == .configuring || inStartingRunning d

/-- A header taken before this entry to STARTING: its mark has arrival PT 0 in the coming run (R82). -/
def staleHeader (x : PortState) : PortState :=
  { x with header := x.header.map fun h => { h with beforeStarting := true } }

/-- A context at entry to STARTING: both flags clear (R101). -/
def startedContext (c : Context) : Context := { c with trimmed := false, stale := false }

/-- Entry to STARTING but for the STOPPED replies and the captures: Log, takes, flags, PT, scrub position, and
the validation walk's begin (R59, R60, R101, R128, R165, R176). -/
def enterStarting (s : State) : State :=
  { s with
    mgmt := { s.mgmt with device := .starting }
    log := {}
    pairing := { s.pairing with takes := [], claps := [], held := [], nextTake := 1 }
    contexts := s.contexts.map startedContext
    tables := { s.tables with scrubPos := 0, walk := .checking 0 s.clock.now }
    clock := { s.clock with pt := 0, hold := 0 }
    tick := { s.tick with due := false }
    portS := staleHeader s.portS
    portP := staleHeader s.portP }

/-- RUN (R176): the requests in the locate queue end STOPPED, then STARTING is entered and both classes are
captured, SETUP_DEFAULTED being raised in the order of Table 9-4 (R183). -/
def actRun (_ : Request) (s : State) : Verdict :=
  let s1 := captureClock (enterStarting (stopLocate s))
  let bad := clockInvalid s1 ++ runInvalid s1 s1.clock.params
  accept (maskBytes 2 bad) (raiseDefaulted bad (captureRun s1))

/-- The validation walk stops where it stands (R60). -/
def stopWalk (s : State) : State := s.setWalk .idle

/-- HALT in STARTING: the walk stops and CONFIGURING is entered with PT 0 (R177). -/
def haltStarting (s : State) : State :=
  let s1 := stopWalk s
  { s1 with
    mgmt := { s1.mgmt with device := .configuring }, clock := { s1.clock with pt := 0, hold := 0 } }

/-- HALT in RUNNING: a tick due at a boundary taken before is made (R18), the contexts close (R107), the
Pairing Unit does its HALT work (R164), and CONFIGURING is entered with PT frozen (R4, R178). DESIGN CHOICE: a silence
expiry still due is not taken first (R117, log entry 34). -/
def haltRunning (s : State) : State :=
  let s1 := pairingHalt (closeAll (makeTick s))
  { s1 with
    mgmt := { s1.mgmt with device := .configuring }, clock := { s1.clock with hold := 0 } }

/-- HALT (R177, R178). -/
def actHalt (_ : Request) (s : State) : Verdict :=
  accept [] (if s.mgmt.device = .starting then haltStarting s else haltRunning s)

/-- A port at CLEAR: its counters 0, all else kept (R38, R41, R42). -/
def clearedPort (x : PortState) : PortState := { x with counters := {} }

/-- The House Clock at CLEAR: the defaults captured, FREE, PT 0, the frame in progress going on (R4, R11). -/
def clearedClock (c : HouseClock) : HouseClock :=
  { now := c.now, phase := c.phase, k := c.k, period := c.period }

/-- Every piece of state at the value its chapter gives for CLEAR (R179). -/
def cleared (s : State) : State :=
  { State.reset with
    powered := s.powered, resetLow := s.resetLow, pending := s.pending, boot := s.boot
    mgmt := { s.mgmt with device := .configuring }
    clock := clearedClock s.clock
    portS := clearedPort s.portS
    portP := clearedPort s.portP
    freeDraws := s.freeDraws }

/-- CLEAR (R179): a tick due at a boundary taken before is made, the locate queue ends STOPPED (R139), and
everything is cleared. -/
def actClear (_ : Request) (s : State) : Verdict :=
  accept [] (cleared (stopLocate (if s.mgmt.device = .running then makeTick s else s)))

/-- FORGET (R180): a toggle due at a boundary taken before takes place, ADDRESSING is entered with address 0,
and the locate queue ends STOPPED (R139). -/
def actForget (_ : Request) (s : State) : Verdict :=
  let s1 := toggleB (toggleA s)
  accept [] (stopLocate
    { s1 with mgmt := { s1.mgmt with device := .addressing, address := some 0 } })

/-- RUN begins (R176). -/
def beginRunRequest : State → State := beginHandling (isCode 6) inConfiguring actRun
/-- HALT begins (R178). -/
def beginHalt : State → State := beginHandling (isCode 7) inStartingRunning actHalt
/-- CLEAR begins (R179). -/
def beginClear : State → State := beginHandling (isCode 8) clearServed actClear
/-- FORGET begins (R180). -/
def beginForget : State → State := beginHandling (isCode 3) inConfiguring actForget

/-- RUN (R176). -/
def execRun (s : State) : Host.Outcome State Fault Refusal := whenAlive beginRunRequest s
/-- HALT (R178). -/
def execHalt (s : State) : Host.Outcome State Fault Refusal := whenAlive beginHalt s
/-- CLEAR (R179). -/
def execClear (s : State) : Host.Outcome State Fault Refusal := whenAlive beginClear s
/-- FORGET (R180). -/
def execForget (s : State) : Host.Outcome State Fault Refusal := whenAlive beginForget s

end Sys2Proof.Machine
end

