-- ==== Sys2Proof/Machine/Reset.lean ====
section
/-! DEFINITION. Power-up, RESETn and the boot record read (R168 to R170, R194). -/

namespace Sys2Proof.Machine

/-- A port at power-up and RESETn: its queue, sending and counters gone, a partly received cell discarded (R29, R41,
R42); the physical layer's holding off is kept. -/
def discardedPort (x : PortState) : PortState :=
  { heldOff := x.heldOff, header := x.header.map fun _ => .discard }

/-- Every block at its power-up value (R168, R170). What is not the part's volatile state is kept: the supply
and the RESETn line, the commands waiting, the boot record's content (a write in progress is abandoned, its
check spoiled, R169), the physical layer's holding off of each transmitter, and that the rest of a cell which is
partly received, and now discarded, is still to come (R29). -/
def powerUpValues (s : State) : State :=
  { State.reset with
    powered := s.powered, resetLow := s.resetLow, pending := s.pending
    boot := { address := s.boot.address, checkGood := s.boot.checkGood, reading := false }
    portS := discardedPort s.portS
    portP := discardedPort s.portP
    freeDraws := s.freeDraws }

/-- The part enters BOOT and the read of the boot record begins, if it has power and RESETn is high (R168). -/
def enterBoot (s : State) : State :=
  let s1 := powerUpValues s
  { s1 with boot := { s1.boot with reading := s1.alive } }

/-- POWER_UP (R168). -/
def execPowerUp (s : State) : Host.Outcome State Fault Refusal :=
  .next (enterBoot { s with powered := true })

/-- POWER_LOST (R169): the volatile state is gone, and the boot record keeps its content. -/
def execPowerLost (s : State) : Host.Outcome State Fault Refusal :=
  .next (powerUpValues { s with powered := false })

/-- RESETN_ASSERT (R170). -/
def execResetnAssert (s : State) : Host.Outcome State Fault Refusal :=
  .next (powerUpValues { s with resetLow := true })

/-- RESETN_RELEASE (R168, R170); RESETn that is high already is not released. -/
def execResetnRelease (s : State) : Host.Outcome State Fault Refusal :=
  if s.resetLow then .next (enterBoot { s with resetLow := false }) else .next s

/-- The boot record read good: its check agrees and its address is not 255 (R168). -/
def bootGood (b : BootRecord) : Bool := b.checkGood && decide (b.address ≤ 254)

/-- The address that the boot record gives: the stored one, or 0 for a bad record (R168). -/
def bootAddress (b : BootRecord) : Nat := if bootGood b then b.address else 0

/-- The end of the boot record read (R168). -/
def bootReadEnd (s : State) : State :=
  let a := bootAddress s.boot
  let s1 := { s with
    boot := { s.boot with reading := false, readGood := bootGood s.boot }
    mgmt := { s.mgmt with
      address := some a, device := if a = 0 then .addressing else .configuring } }
  if bootGood s.boot then s1 else raise .bootRecordBad [] s1

/-- BOOT_RECORD_READ_END (R168); it happens only while the read is in progress. -/
def execBootRecordReadEnd (s : State) : Host.Outcome State Fault Refusal :=
  whenAlive
    (fun s => if s.mgmt.device == .boot && s.boot.reading then bootReadEnd s else s) s

end Sys2Proof.Machine
end

