-- ==== Sys2Proof/Machine/Idle.lean ====
section
/-! DEFINITION. What the part does while no command waits: one MCLK tick (log entry 1). What is due takes
place, the units take up their oldest requests, a sending begins, and one cycle or the boundary that has come
passes. -/

namespace Sys2Proof.Machine

/-- The oldest request of the inbox begins its handling by its kind (R173). -/
def beginManagement (s : State) : State :=
  match s.mgmt.inbox with
  | [] => s
  | r :: _ =>
    match r.kind with
    | 1 => beginSetAddress s | 2 => beginIdentify s | 3 => beginForget s | 4 => beginSaveAddress s
    | 5 => beginClockApply s | 6 => beginRunRequest s | 7 => beginHalt s | 8 => beginClear s
    | 9 => beginMap s | 10 => beginUnmap s | 11 => beginReadMap s | 12 => beginWriteSource s
    | 13 => beginReadSource s | 14 => beginWriteGroup s | 15 => beginReadGroup s
    | 16 => beginInject s | 17 => beginWriteParams s | 18 => beginReadParams s
    | 19 => beginOpen s | 20 => beginClose s | 21 => beginReopen s | 22 => beginReadContext s
    | 23 => beginReadStatus s | 24 => beginReadEvents s | 25 => beginClearEvents s
    | _ => beginUnknown s

/-- The oldest request of the locate queue begins its service by its kind (R131). -/
def beginLocate (s : State) : State :=
  match s.locate.queue with
  | [] => s
  | r :: _ =>
    match r.kind with
    | 26 => beginLocateTime s
    | 27 => beginLocateCount s
    | 28 => beginTakeQuery s
    | 29 => beginTakeFind s
    | _ => beginTakeAt s

/-- The walk checks its next position, or ends after the last (R60). -/
def walkTick (s : State) : State :=
  match s.tables.walk with
  | .checking n _ => if n < 400 then walkCheck s else walkEnd s
  | .idle | .ended => s

/-- One MCLK cycle passes, or the boundary that has come takes place (R2). -/
def clockTick (s : State) : State :=
  if cyclesToBoundary s = 0 then (if s.clock.k < 999 then milliframe s else endFrame s)
  else passCycles 1 s

/-- The part with no command waiting, for one tick of MCLK. -/
def idle (s : State) : State :=
  if s.alive then
    clockTick (startSending .post (startSending .stage
      (beginLocate (beginManagement (walkTick (settle s))))))
  else s

end Sys2Proof.Machine
end

