-- ==== Sys2Proof/Machine/Dispatch.lean ====
section
/-! DEFINITION. The meaning of every command, one direct call per row of spec/opcode_table.json. -/

namespace Sys2Proof.Machine

def exec (i : Instr) (s : State) : Host.Outcome State Fault Refusal :=
  match i with
  | .powerUp => Sys2Proof.Machine.execPowerUp s
  | .resetnAssert => Sys2Proof.Machine.execResetnAssert s
  | .resetnRelease => Sys2Proof.Machine.execResetnRelease s
  | .bootRecordReadEnd => Sys2Proof.Machine.execBootRecordReadEnd s
  | .bootRecordWriteEnd => Sys2Proof.Machine.execBootRecordWriteEnd s
  | .refinPulse => Sys2Proof.Machine.execRefinPulse s
  | .missingTimerExpiry => Sys2Proof.Machine.execMissingTimerExpiry s
  | .frameBoundary => Sys2Proof.Machine.execFrameBoundary s
  | .milliframeBoundary => Sys2Proof.Machine.execMilliframeBoundary s
  | .tickDue => Sys2Proof.Machine.execTickDue s
  | .tickLineToggle line => Sys2Proof.Machine.execTickLineToggle line s
  | .tickbChainedToggle => Sys2Proof.Machine.execTickbChainedToggle s
  | .cellHeaderComplete port => Sys2Proof.Machine.execCellHeaderComplete port s
  | .cellArrival port wire => Sys2Proof.Machine.execCellArrival port wire s
  | .cellSendStart port => Sys2Proof.Machine.execCellSendStart port s
  | .cellSendEnd port => Sys2Proof.Machine.execCellSendEnd port s
  | .silenceExpiry slot => Sys2Proof.Machine.execSilenceExpiry slot s
  | .clapDeadline take => Sys2Proof.Machine.execClapDeadline take s
  | .transientDeadline place => Sys2Proof.Machine.execTransientDeadline place s
  | .validationWalkEnd => Sys2Proof.Machine.execValidationWalkEnd s
  | .runBegin => Sys2Proof.Machine.execRunBegin s
  | .mgmtHandlingEnd => Sys2Proof.Machine.execMgmtHandlingEnd s
  | .locateServiceEnd => Sys2Proof.Machine.execLocateServiceEnd s
  | .setAddress => Sys2Proof.Machine.execSetAddress s
  | .identify => Sys2Proof.Machine.execIdentify s
  | .forget => Sys2Proof.Machine.execForget s
  | .saveAddress => Sys2Proof.Machine.execSaveAddress s
  | .clockApply => Sys2Proof.Machine.execClockApply s
  | .run => Sys2Proof.Machine.execRun s
  | .halt => Sys2Proof.Machine.execHalt s
  | .clear => Sys2Proof.Machine.execClear s
  | .mapKey => Sys2Proof.Machine.execMapKey s
  | .unmapKey => Sys2Proof.Machine.execUnmapKey s
  | .readMap => Sys2Proof.Machine.execReadMap s
  | .writeSource => Sys2Proof.Machine.execWriteSource s
  | .readSource => Sys2Proof.Machine.execReadSource s
  | .writeGroup => Sys2Proof.Machine.execWriteGroup s
  | .readGroup => Sys2Proof.Machine.execReadGroup s
  | .inject => Sys2Proof.Machine.execInject s
  | .writeParams => Sys2Proof.Machine.execWriteParams s
  | .readParams => Sys2Proof.Machine.execReadParams s
  | .openSource => Sys2Proof.Machine.execOpenSource s
  | .closeSource => Sys2Proof.Machine.execCloseSource s
  | .reopenSource => Sys2Proof.Machine.execReopenSource s
  | .readContext => Sys2Proof.Machine.execReadContext s
  | .readStatus => Sys2Proof.Machine.execReadStatus s
  | .readEvents => Sys2Proof.Machine.execReadEvents s
  | .clearEvents => Sys2Proof.Machine.execClearEvents s
  | .unknownRequest => Sys2Proof.Machine.execUnknownRequest s
  | .locateTime => Sys2Proof.Machine.execLocateTime s
  | .locateCount => Sys2Proof.Machine.execLocateCount s
  | .takeQuery => Sys2Proof.Machine.execTakeQuery s
  | .takeFind => Sys2Proof.Machine.execTakeFind s
  | .takeAt => Sys2Proof.Machine.execTakeAt s
  | .powerLost => Sys2Proof.Machine.execPowerLost s
  | .validationWalkCheck => Sys2Proof.Machine.execValidationWalkCheck s
  | .transmitterHoldOff port => Sys2Proof.Machine.execTransmitterHoldOff port s
  | .transmitterHoldOffEnd port => Sys2Proof.Machine.execTransmitterHoldOffEnd port s

end Sys2Proof.Machine
end

