-- ==== Sys2Proof/Safety.lean ====
section
/-! DEFINITION. What the claims are stated in: the invariants that every step keeps, and the words for a
request that waits and for the answer fixed for it. -/

namespace Sys2Proof.Machine

/-! ### Capacities and ranges -/

/-- Every bounded collection is within its capacity (R39, R124, R130, R143, R150, R173). -/
def WithinCapacity (s : State) : Prop :=
  s.portS.queue.length ≤ Config.egressCapacity ∧ s.portP.queue.length ≤ Config.egressCapacity ∧
  s.mgmt.inbox.length ≤ Config.inboxCapacity ∧ s.locate.queue.length ≤ Config.locateCapacity ∧
  s.log.entries.length ≤ Config.logCapacity ∧ s.pairing.takes.length ≤ Config.takeCapacity ∧
  s.pairing.claps.length ≤ Config.clapCapacity ∧ s.pairing.held.length ≤ Config.heldCapacity ∧
  ∀ t ∈ s.pairing.takes, t.rows.length ≤ Config.rowCapacity

/-- The counters of a port are 32-bit (R42). -/
def Counters.InRange (c : Counters) : Prop :=
  ∀ n ∈ [c.arrived, c.damaged, c.consumed, c.broadcastTaken, c.shortMarks, c.alreadyStamped,
    c.forwardedOut, c.overrun, c.replyDrop, c.tickDrop, c.noticeDrop], n ≤ Config.maxCounter

/-- The open generation and the five counters of a context are 32-bit (R99). -/
def Context.CountersInRange (c : Context) : Prop :=
  c.gen < Config.wrap32 ∧ ∀ n ∈ [c.marks, c.missed, c.duplicates, c.slips, c.jumps], n ≤ Config.maxCounter

/-- Counters, sequence numbers and positions lie in their ranges (R12, R38, R42, R59, R99, R124, R148). -/
def WithinRanges (s : State) : Prop :=
  s.portS.counters.InRange ∧ s.portP.counters.InRange ∧
  s.portS.sequence < 256 ∧ s.portP.sequence < 256 ∧
  s.monitor.noise ≤ Config.maxCounter ∧ s.tables.scrubPos < 400 ∧
  s.log.nextSeq < Config.wrap32 ∧ 1 ≤ s.pairing.nextTake ∧ s.pairing.nextTake ≤ 65535 ∧
  ∀ i : Fin 128, (s.ctx i).CountersInRange

/-! ### Events and the alarm line -/

/-- A class's flag is set exactly while its count is not 0 and while it has a first detail; the count is at most
65,535 and the detail at most 9 bytes (R186, R187). -/
def EventState.Sound (e : EventState) : Prop :=
  (e.flag = true ↔ e.count ≠ 0) ∧ (e.flag = true ↔ e.detail ≠ none) ∧
  e.count ≤ Config.maxEventCount ∧ (e.detail.getD []).length ≤ 9

/-- Every event class is sound (R186). -/
def EventsSound (s : State) : Prop := ∀ i : Fin 18, s.events[i].Sound

/-- FAULTn is asserted exactly while a flag whose class has its alarm attribute set is set (R193). -/
def AlarmFollowsFlags (s : State) : Prop := s.faultn = s.alarmRaised

/-! ### Clock and device state -/

/-- Picture time keeps its range; it is 0 in BOOT and STARTING, and in a run its subframe is the milliframe
index but for what a hold withholds (R2, R3, R4, R16). -/
def PictureTimeInStep (s : State) : Prop :=
  s.clock.pt ≤ Config.maxPt ∧ s.clock.k < 1000 ∧
  (s.mgmt.device = .boot ∨ s.mgmt.device = .starting → s.clock.pt = 0) ∧
  (s.mgmt.device = .running → s.clock.pt < Config.maxPt →
    s.clock.pt % 1000 = s.clock.k + s.clock.hold)

/-- The clock is FREE exactly when the captured reference mode is INTERNAL (R10). -/
def FreeExactlyInternal (s : State) : Prop :=
  s.clock.state = .free ↔ s.clock.params.externalRef = false

/-- The node address is none in BOOT, 0 in ADDRESSING, 1 to 254 in the other states (R167). -/
def AddressFitsState (s : State) : Prop :=
  match s.mgmt.device with
  | .boot => s.mgmt.address = none
  | .addressing => s.mgmt.address = some 0
  | .configuring | .starting | .running => ∃ a, s.mgmt.address = some a ∧ 1 ≤ a ∧ a ≤ 254

/-- While the power is off or RESETn is low, every block holds its power-up value (R168, R170). -/
def StillWhileReset (s : State) : Prop := s.alive = false → powerUpValues s = s

/-! ### Tables and contexts -/

/-- The Stream Map holds each key in its own set, and no key and no slot twice (R46). -/
def MapUnique (s : State) : Prop :=
  (∀ i : Fin 256, ∀ e, s.mapAt i = some e → (i : Nat) / 4 = mapSet e.content.key) ∧
  (∀ i j : Fin 256, ∀ e f, s.mapAt i = some e → s.mapAt j = some f → i ≠ j →
    e.content.key ≠ f.content.key ∧ e.content.slot ≠ f.content.slot)

/-- The fields of a source entry lie in the ranges of Table 3-2 (R51, R52). -/
def SourceEntry.InRange (e : SourceEntry) : Prop :=
  (∀ b ∈ e.tag, 32 ≤ b.toNat ∧ b.toNat ≤ 126) ∧ e.tag.length = 8 ∧
  1 ≤ e.rn ∧ e.rn ≤ 200000000 ∧ (e.rd = 1000 ∨ e.rd = 1001) ∧ 1 ≤ e.stride ∧ e.stride ≤ 1048576 ∧
  e.latency ≤ 100000 ∧ 1 ≤ e.silenceLimit ∧ e.silenceLimit ≤ 1000 ∧ 1 ≤ e.gapLimit ∧
  e.gapLimit ≤ 64 ∧ 2 ≤ e.window ∧ e.window ≤ 256 ∧ e.gain ≤ 10000 ∧ 1 ≤ e.lockTol ∧
  e.lockTol ≤ 1000 ∧ e.lockTol < e.slipTol ∧ e.slipTol ≤ 100000 ∧ e.trimLimit ≤ 500000 ∧
  |e.initialTrim| ≤ e.trimLimit ∧ e.adjustLimit ≤ 10000 ∧ e.group ≤ 16

/-- The fields of a group entry lie in the ranges of Table 3-3 (R55). -/
def GroupEntry.InRange (e : GroupEntry) : Prop :=
  1 ≤ e.pairingWindow ∧ e.pairingWindow ≤ 240000 ∧ 1 ≤ e.rollingLimit ∧ e.rollingLimit ≤ 1000 ∧
  e.stepThreshold ≤ 1000 ∧ e.labelTol ≤ 100

/-- Every stored entry and every working copy lies in its ranges, an open context has a working copy, and a
context's trim and latency adjust lie within the limits of its working copy (R51, R52, R55, R100, R114,
R122). -/
def EntriesInRange (s : State) : Prop :=
  (∀ i : Fin 128, ∀ e, s.sourceAt i = some e → e.content.InRange) ∧
  (∀ i : Fin 16, ∀ e, s.tables.group[i] = some e → e.content.InRange) ∧
  (∀ i : Fin 128, (s.ctx i).isOpen = true → (s.ctx i).work ≠ none) ∧
  (∀ i : Fin 128, ∀ w, (s.ctx i).work = some w →
    w.InRange ∧ |(s.ctx i).trim| ≤ w.trimLimit ∧ |(s.ctx i).adjust| ≤ w.adjustLimit)

/-- Outside RUNNING every context is CLOSED and no clap and no transient waits (R101, R107, R164, R165). -/
def RestsOutsideRun (s : State) : Prop :=
  s.mgmt.device ≠ .running →
    (∀ i : Fin 128, (s.ctx i).state = .closed) ∧ s.pairing.claps = [] ∧ s.pairing.held = []

/-- The entries of the Anchor Log bear consecutive sequence numbers, modulo 2^32, up to the next one's
predecessor (R124, R125, R127). -/
def LogNumbered (s : State) : Prop :=
  s.log.entries.length ≤ Config.logCapacity ∧ s.log.nextSeq < Config.wrap32 ∧
  s.log.entries.map LogEntry.seq = (List.range s.log.entries.length).map fun i =>
    (s.log.nextSeq + Config.wrap32 - s.log.entries.length + i) % Config.wrap32

/-! ### The link -/

/-- The cells that arrived at a port are those damaged or consumed there and those forwarded out of or dropped
at the other port, while the arrived counter has not saturated (R43). -/
def ConservedAt (x y : Counters) : Prop :=
  x.arrived < Config.maxCounter →
    x.arrived = x.damaged + x.consumed + y.forwardedOut + y.overrun

/-- R43 for both ports. -/
def CellsConserved (s : State) : Prop :=
  ConservedAt s.portS.counters s.portP.counters ∧ ConservedAt s.portP.counters s.portS.counters

/-! ### Conversions and marks -/

/-- The inputs of a conversion lie in the ranges of R66. -/
def Conversion.InRange (v : Conversion) : Prop :=
  v.rate ≤ 8 ∧ 1 ≤ v.rn ∧ v.rn ≤ 200000000 ∧ (v.rd = 1000 ∨ v.rd = 1001) ∧ |v.trim| ≤ 500000 ∧
    v.c0 < Config.countModulus ∧ v.pt0 ≤ Config.maxPt

/-- A good mark that reaches the Stamping Unit from a port: received whole, RUNNING, not stamped, not short (R29,
R31). -/
def ReachesStamping (s : State) (port : Port) (w : Cell) : Prop :=
  s.alive = true ∧ s.discards port = false ∧ s.mgmt.device = .running ∧ cellGood w = true ∧ cellStamped w = false ∧
    ∃ need, markNeed (cellKind w) = some need ∧ need ≤ cellLength w

/-! ### Requests that wait, and their answers -/

/-- The part is alive, and the request, long enough for its kind, stands next for handling, the Unit free: it
came addressed to the part, or as a broadcast (R172 to R174). -/
def StandsNext (s : State) (r : Request) : Prop :=
  s.alive = true ∧ s.mgmt.handling = none ∧ s.mgmt.inbox.head? = some r ∧ argNeed r.kind ≤ r.args.length

/-- The same of a request addressed to the part (R172, R173). -/
def Awaits (s : State) (r : Request) : Prop :=
  s.alive = true ∧ s.mgmt.handling = none ∧ s.mgmt.inbox.head? = some r ∧ r.broadcast = false ∧
    argNeed r.kind ≤ r.args.length

/-- The state with the whole reply to a request fixed: one payload for each cell's data (R173). -/
def State.answer (s : State) (r : Request) (st : ReplyStatus) (data : List (List Byte)) : State :=
  { s with mgmt := { s.mgmt with handling := some (data.map (replyPayload r st)) } }

/-- The state with an accepted request's handling begun: the whole reply fixed, or none for a broadcast (R173,
R174). -/
def State.accepted (s : State) (r : Request) (data : List (List Byte)) : State :=
  { s with mgmt := { s.mgmt with
    handling := some (if r.broadcast then [] else data.map (replyPayload r .ok)) } }

/-- The state with every request in the locate queue ended STOPPED, in queue order (R139). -/
def State.stopped (s : State) : State :=
  { s.locate.queue.foldl (fun t q => joinReply q.port q.origin (replyPayload q .stopped []) t) s with
    locate := { queue := [], service := none } }

/-- The part is alive, and the request, long enough for its kind, stands next for service, the Unit free
(R131, R132). -/
def AwaitsLocate (s : State) (r : Request) : Prop :=
  s.alive = true ∧ s.locate.service = none ∧ s.locate.queue.head? = some r ∧
    argNeed r.kind ≤ r.args.length

/-- The state with the whole answer to a locate request fixed (R131). -/
def State.serve (s : State) (r : Request) (st : ReplyStatus) (data : List (List Byte)) : State :=
  { s with locate := { s.locate with service := some (data.map (replyPayload r st)) } }

/-- The kind code of a management request's command (Table 2-7). -/
def mgmtKind : Instr → Option Nat
  | .setAddress => some 1 | .identify => some 2 | .forget => some 3 | .saveAddress => some 4
  | .clockApply => some 5 | .run => some 6 | .halt => some 7 | .clear => some 8 | .mapKey => some 9
  | .unmapKey => some 10 | .readMap => some 11 | .writeSource => some 12 | .readSource => some 13
  | .writeGroup => some 14 | .readGroup => some 15 | .inject => some 16 | .writeParams => some 17
  | .readParams => some 18 | .openSource => some 19 | .closeSource => some 20
  | .reopenSource => some 21 | .readContext => some 22 | .readStatus => some 23
  | .readEvents => some 24 | .clearEvents => some 25
  | .powerUp | .resetnAssert | .resetnRelease | .bootRecordReadEnd | .bootRecordWriteEnd
  | .refinPulse | .missingTimerExpiry | .frameBoundary | .milliframeBoundary | .tickDue
  | .tickLineToggle _ | .tickbChainedToggle | .cellHeaderComplete _ | .cellArrival _ _
  | .cellSendStart _ | .cellSendEnd _ | .silenceExpiry _ | .clapDeadline _ | .transientDeadline _
  | .validationWalkEnd | .runBegin | .mgmtHandlingEnd | .locateServiceEnd | .unknownRequest
  | .locateTime | .locateCount | .takeQuery | .takeFind | .takeAt | .powerLost
  | .validationWalkCheck | .transmitterHoldOff _ | .transmitterHoldOffEnd _ => none

/-- Table 9-3: a device state serves a kind. -/
def servedIn (kind : Nat) (d : DeviceState) : Bool :=
  match d with
  | .boot => false
  | .addressing => kind == 1 || kind == 2
  | .configuring => kind != 7 && kind != 19 && kind != 20 && kind != 21
  | .starting => kind == 7 || kind == 8
  | .running => kind != 1 && kind != 3 && kind != 4 && kind != 5 && kind != 6

/-! ### A quiet instant -/

/-- Nothing is due at the present instant: no silence counter at 0, no deadline reached, no tick and no toggle
due (R17, R18, R19, R117, R160, R161). -/
def Quiet (s : State) : Prop :=
  (∀ i : Fin 128, (s.ctx i).silenceDue = false) ∧
  (∀ c ∈ s.pairing.claps, deadlineReached s c.deadline = false) ∧
  (∀ h ∈ s.pairing.held, deadlineReached s h.deadline = false) ∧
  s.tick.due = false ∧ s.lines.a.due = false ∧ s.lines.b.due = false

/-- Nothing ends within the next `n` cycles but the frame phase's own boundary: no missing timer and no
validation walk (R15, R60). -/
def NothingEndsWithin (n : Nat) (s : State) : Prop :=
  missingWithin n s = false ∧ walkOutlasts n s = false

/-- A cell received at a port: the header's arrival PT is used up, the cell counted as arrived, and the port's
other counters changed by `f` (R29, R42). -/
def State.received (s : State) (port : Port) (f : Counters → Counters) : State :=
  s.setPort port { s.port port with
    header := none
    counters := f { (s.port port).counters with arrived := bump (s.port port).counters.arrived } }

/-- A cell that arrived at a port stands at the back of the other port's egress queue, counted as forwarded out
(R37, R42). -/
def State.relayed (s : State) (port : Port) (w : Cell) : State :=
  let y := s.port (otherPort port)
  s.setPort (otherPort port) { y with
    queue := y.queue ++ [w]
    counters := { y.counters with forwardedOut := bump y.counters.forwardedOut } }

/-- A cell of the part's own stands at the back of a port's egress queue under the port's next sequence number
(R36, R38). -/
def State.joined (s : State) (port : Port) (dest : Byte) (kind : Nat) (payload : List Byte) : State :=
  let y := s.port port
  s.setPort port { y with
    queue := y.queue ++ [madeCell dest s.ownByte kind y.sequence payload]
    sequence := (y.sequence + 1) % 256 }

/-- A REPLY cell offered to a port's egress queue: it joins, or a full queue drops it, which is counted as a reply
drop and raises EGRESS_DROP (R36, R40). -/
def State.replyOffered (s : State) (port : Port) (dest : Byte) (payload : List Byte) : State :=
  if s.hasRoom port then s.joined port dest 6 payload
  else raise .egressDrop [portCode port, 1]
    (s.countAt port fun x => { x with replyDrop := bump x.replyDrop })

/-- A TICK cell offered to a port's egress queue: it joins, or a full queue drops it, which is counted as a tick drop
and raises EGRESS_DROP (R18, R36, R40). -/
def State.tickOffered (s : State) (port : Port) (payload : List Byte) : State :=
  if s.hasRoom port then s.joined port 255 4 payload
  else raise .egressDrop [portCode port, 2]
    (s.countAt port fun x => { x with tickDrop := bump x.tickDrop })

/-- The cells of one reply offered to the queue of its request's port, one after the other (R138, R175). -/
def State.replyMade (s : State) (r : Request) (cells : List (List Byte)) : State :=
  cells.foldl (fun t d => t.replyOffered r.port r.origin d) s

/-! ### Contexts, the Anchor Log and claps -/

/-- A context as an open from an entry leaves it (R103). -/
def Context.openedWith (c : Context) (w : SourceEntry) : Context :=
  { c with
    state := .acquiring, work := some w, gen := (c.gen + 1) % 2 ^ 32, anchor := none
    trim := w.initialTrim, adjust := 0, windowCount := 0, windowSum := 0, silence := w.silenceLimit
    marks := 0, missed := 0, duplicates := 0, slips := 0, jumps := 0, stale := false }

/-- The picture time that an anchor set at an arrival gives its count: the arrival less the effective latency,
held to 0 to 2^48 - 1 (R88, R92, R120). -/
def Context.anchorPtAt (c : Context) (arrival : Nat) : Nat :=
  (max 0 (min ((arrival : Int) - (c.entry.latency + c.adjust)) Config.maxPt)).toNat

/-- The Log with the end of a context's open segment filled into its anchor's entry (R105, R126). -/
def State.segmentEnded (s : State) (c : Context) (e : SegmentEnd) : State :=
  match c.anchor with
  | none => s
  | some a => { s with log := { s.log with entries := s.log.entries.map fun x =>
      if x.seq = a.seq ∧ x.ending = none then { x with ending := some e } else x } }

/-- An entry at the back of the Log under the next sequence number; at a full Log the oldest entry leaves, and
the context of its slot is marked history-trimmed (R125, R127). -/
def State.appended (s : State) (x : LogEntry) : State :=
  let next := (s.log.nextSeq + 1) % 2 ^ 32
  match s.log.entries with
  | [] => { s with log := { entries := [x], nextSeq := next } }
  | old :: rest =>
    if s.log.entries.length < 512 then
      { s with log := { entries := s.log.entries ++ [x], nextSeq := next } }
    else { s.setCtx old.slot { s.ctx old.slot with trimmed := true } with
      log := { entries := rest ++ [x], nextSeq := next } }

/-- A context's new anchor in its Log entry: the context set so, and the entry appended (R121, R125). -/
def State.anchoredAt (s : State) (slot : Fin 128) (c : Context) (w : SourceEntry) (reason : AnchorReason)
    (count pt : Nat) : State :=
  (s.setCtx slot { c with anchor := some ⟨count, pt, s.log.nextSeq⟩ }).appended
    { seq := s.log.nextSeq, slot := slot, gen := c.gen, reason := reason, c0 := count, pt0 := pt
      trim := c.trim, adjust := c.adjust, rn := w.rn, rd := w.rd, ending := none }

/-- A take whose clap has ended: every PENDING row UNPAIRED, the take CLOSED (R159). -/
def Take.unpaired (t : Take) : Take :=
  { t with
    isOpen := false
    rows := t.rows.map fun r => if r.status = .pending then { r with status := .unpaired } else r }

/-- The state with the pending clap of a take ended: the take's rows UNPAIRED, the clap gone, and CLAP_UNPAIRED
raised with the take number and the UNPAIRED rows (R159). -/
def State.clapEnded (s : State) (n : Nat) : State :=
  let rows := match s.takeNumbered n with
    | some t => t.unpaired.rows.countP fun r => r.status == .unpaired
    | none => 0
  raise .clapUnpaired (beBytes 2 n ++ beBytes 1 (min rows 255))
    { s with pairing := { s.pairing with
      takes := s.pairing.takes.map fun u => if u.number = n then u.unpaired else u
      claps := s.pairing.claps.filter fun d => d.take != n } }

/-- A row is PENDING for an opening of a slot (R162). -/
def TakeRow.waitsFor (slot : Fin 128) (gen : Nat) (r : TakeRow) : Bool :=
  r.status == .pending && r.slot == slot && r.gen == gen

/-- An OPEN take with its rows that wait for an opening of a slot made UNPAIRED (R162, step 1). -/
def Take.leftBy (slot : Fin 128) (gen : Nat) (t : Take) : Take :=
  if t.isOpen then
    { t with rows := t.rows.map fun r => if r.waitsFor slot gen then { r with status := .unpaired } else r }
  else t

/-- The OPEN takes whose last PENDING rows wait for an opening of a slot (R162, step 1). -/
def State.takesWaitingFor (s : State) (slot : Fin 128) (gen : Nat) : List Nat :=
  (s.pairing.takes.filter fun t => t.isOpen && t.rows.any (TakeRow.waitsFor slot gen) &&
    t.rows.all fun r => r.status != .pending || r.waitsFor slot gen).map Take.number

/-- The state with an open context closed, the claps that the close leaves without a PENDING row ending in the
order given: the segment's end, the state CLOSED, the rows of the opening UNPAIRED, the endings, and the
slot's held transients discarded (R105, R162). The order is drawn anew (log entry 7). -/
def State.contextClosed (s : State) (slot : Fin 128) (order : List Nat) : State :=
  let c := s.ctx slot
  let s1 := (s.segmentEnded c ⟨c.lastCount, c.lastConverted⟩).setCtx slot { c with state := .closed }
  let s2 := order.foldl State.clapEnded { s1 with
    freeDraws := s.freeDraws + 1
    pairing := { s.pairing with takes := s.pairing.takes.map (Take.leftBy slot c.gen) } }
  { s2 with pairing := { s2.pairing with held := s2.pairing.held.filter fun h => h.slot != slot } }

/-! ### Pairing -/

/-- The distance of two picture times. -/
def ptGap (a b : Nat) : Nat := ((a : Int) - b).natAbs

/-- A pending clap that a transient of a slot may pair with under a pairing window (R154). -/
def ClapFits (s : State) (g window : Nat) (slot : Fin 128) (pt : Nat) (c : PendingClap) : Prop :=
  c.group = g ∧
    (∃ t, s.takeNumbered c.take = some t ∧ ∃ r ∈ t.rows, r.slot = slot ∧ r.status = .pending) ∧
    ptGap c.clapPt pt ≤ window

/-- A held transient that the PENDING row of a slot in a take may take under a pairing window (R153). -/
def HeldFits (t : Take) (window : Nat) (slot : Fin 128) (h : HeldTransient) : Prop :=
  h.group = t.group ∧ h.slot = slot ∧ ptGap h.pt t.clapPt ≤ window

/-- A slot holds a rolling member of a group at a clap: its context open and not LOST, the working copy naming the
group and no slate, not the slate's own slot, with an anchor, and its last arrival no more than the rolling limit before
the clap's (R150). -/
abbrev State.Rolling (s : State) (g limit : Nat) (m : ClapMark) (i : Fin 128) : Prop :=
  (s.ctx i).state ≠ .closed ∧ (s.ctx i).state ≠ .lost ∧ (s.ctx i).entry.group = g ∧
    (s.ctx i).entry.cls ≠ .slate ∧ i ≠ m.slot ∧ (s.ctx i).anchor ≠ none ∧
    m.arrival ≤ (s.ctx i).lastArrival + limit * 1000

/-- The row of a rolling member: role and generation of its context, the clap PT's reverse conversion under its anchor,
absent out of range, and PENDING for a recorder, else FIXED (R150). -/
def State.rowOf (s : State) (clapPt : Nat) (i : Fin 128) : TakeRow :=
  let c := s.ctx i
  { slot := i, role := c.entry.cls, gen := c.gen
    count := c.anchor.bind fun a =>
      (reverse (contextConversion s c a) (ptHeld s) clapPt).map Converted.value
    status := match c.entry.cls with | .recorder => .pending | .camera | .slate | .plain => .fixed
    delta := none }

/-- The label difference of a slate label from the house label of a clap PT: the smaller way round the label day, half
a day counted up, or none for an invalid label (R151). -/
def State.labelOff (s : State) (l : Label) (clapPt : Nat) : Option Int :=
  let p := s.clock.params
  let day := labelDay p
  let ahead := (((indexOfLabel p l : Int) - ((s.settings.epochIndex + clapPt / 1000) % day : Nat)) % day).toNat
  if labelValid p l then some (if 2 * ahead ≤ day then (ahead : Int) else (ahead : Int) - day) else none

/-! ### What the Anchor Log covers -/

/-- An entry covers a picture time: from its anchor to its segment's end, the current PT while it is open; and the
anchor's own alone when the end's count, the context's last count while it is open, lies before the anchor's, of an
open entry once PT has reached it (R129). -/
def LogEntry.CoversPt (s : State) (e : LogEntry) (h : Nat) : Prop :=
  match e.ending with
  | some x => if countDiff x.count e.c0 < 0 then h = e.pt0 else e.pt0 ≤ h ∧ h ≤ x.pt
  | none =>
    if countDiff (s.ctx e.slot).lastCount e.c0 < 0 then h = e.pt0 ∧ e.pt0 ≤ s.clock.pt
    else e.pt0 ≤ h ∧ h ≤ s.clock.pt

/-- An entry covers a count: those from its anchor forward to its segment's end, across the wrap, the context's last
count while it is open; and the anchor's own alone when that end lies before the anchor (R129). -/
def LogEntry.CoversCount (s : State) (e : LogEntry) (c : Nat) : Prop :=
  let last := match e.ending with
    | some x => x.count
    | none => (s.ctx e.slot).lastCount
  if countDiff last e.c0 < 0 then c = e.c0
  else ((c : Int) - e.c0) % 2 ^ 40 ≤ ((last : Int) - e.c0) % 2 ^ 40

/-! ### The clock and run classes as written -/

/-- A value in its range, or the default in its place (R183). -/
def orDefault (lo hi d v : Nat) : Nat := if lo ≤ v ∧ v ≤ hi then v else d

/-- The clock class as a capture takes it into use (R1, R183, Table 9-4). -/
def State.clockCaptured (s : State) : ClockParams :=
  let rate := orDefault 0 8 0 (s.param 0)
  { rate := rate, dropFrame := s.param 1 == 1 && (rate == 3 || rate == 7)
    externalRef := s.param 2 == 1, divisor := orDefault 1 2 1 (s.param 3)
    tolerance := orDefault 1 20000 2700 (s.param 4), window := orDefault 1 10000 270 (s.param 5)
    lockCount := orDefault 2 16 4 (s.param 6), lossCount := orDefault 2 16 3 (s.param 7) }

/-- The clock fields that a capture defaults, in the order of Table 9-4: drop-frame on is valid only with rate
codes 3 and 7 (R183). -/
def State.clockDefaulted (s : State) : List Nat :=
  [(0, decide (s.param 0 ≤ 8)),
    (1, decide (s.param 1 = 0 ∨ s.param 1 = 1 ∧ (s.param 0 = 3 ∨ s.param 0 = 7))),
    (2, decide (s.param 2 ≤ 1)), (3, decide (1 ≤ s.param 3 ∧ s.param 3 ≤ 2)),
    (4, decide (1 ≤ s.param 4 ∧ s.param 4 ≤ 20000)), (5, decide (1 ≤ s.param 5 ∧ s.param 5 ≤ 10000)),
    (6, decide (2 ≤ s.param 6 ∧ s.param 6 ≤ 16)), (7, decide (2 ≤ s.param 7 ∧ s.param 7 ≤ 16))].filterMap
    fun x : Nat × Bool => if x.2 then none else some x.1

/-- The run fields that a capture defaults, in the order of Table 9-4: the epoch label is judged under the clock
class captured with it (R183). -/
def State.runDefaulted (s : State) : List Nat :=
  [(8, labelValid s.clockCaptured (readLabel (beBytes 4 (s.param 8)))), (9, decide (s.param 9 ≤ 255)),
    (10, decide (s.param 10 ≤ 16)), (11, decide (s.param 11 ≤ 1)), (12, decide (s.param 12 ≤ 1)),
    (13, decide (s.param 13 ≤ 1))].filterMap
    fun x : Nat × Bool => if x.2 then none else some x.1

/-- The defaulted-field list with the fields below `n` rewritten by a capture that defaults `bad` (R183). -/
def State.listedAfter (s : State) (n : Nat) (bad : List Nat) : Vector Bool fieldCount :=
  Vector.ofFn fun i : Fin fieldCount => if (i : Nat) < n then bad.contains (i : Nat) else s.defaulted[i]

/-- The state with SETUP_DEFAULTED raised for each field in order (R183). -/
def State.setupDefaulted (s : State) (bad : List Nat) : State :=
  bad.foldl (fun t c => raise .setupDefaulted [byteOf c] t) s

/-- A valid value of the live field with a code (Table 9-4). -/
def liveValid (code v : Nat) : Bool :=
  if code = 14 then decide (v ≤ 254) else if code = 15 then decide (v ≤ 1)
  else if code ≤ 34 then decide (v ≤ 3) else if code ≤ 54 then decide (v ≤ 1)
  else if code ≤ 56 then decide (1 ≤ v ∧ v ≤ 255) else decide (v ≤ 2)

/-! ### Indices of requests -/

/-- The key at the front of a request's arguments has a node outside 1 to 254 or a stream outside 0 to 3 (R45,
R132). -/
def Request.BadKey (r : Request) : Prop := r.arg 0 1 = 0 ∨ 254 < r.arg 0 1 ∨ 3 < r.arg 1 1

/-- A slot, group, key, table or position that a request's kind names lies outside its range, or its set of event
classes names a class above 17 (R45, R61, R102, R104, R106, R191). -/
def Request.BadIndex (r : Request) : Prop :=
  match r.kind with
  | 9 => r.BadKey ∨ 127 < r.arg 2 1
  | 10 | 11 => r.BadKey
  | 12 | 13 | 19 | 20 | 21 | 22 => 127 < r.arg 0 1
  | 14 | 15 => r.arg 0 1 = 0 ∨ 16 < r.arg 0 1
  | 16 => 2 < r.arg 0 1 ∨ (r.arg 0 1 = 1 ∧ 127 < r.arg 1 1) ∨
      (r.arg 0 1 = 2 ∧ (r.arg 1 1 = 0 ∨ 16 < r.arg 1 1))
  | 24 | 25 => 2 ^ 18 ≤ r.arg 0 3
  | _ => False

/-! ### House frames -/

/-- A Table Store entry that a check passes over or finds whole (R58). -/
def PositionWhole (s : State) (n : Nat) : Prop :=
  (∀ h : n < 256, checkFails (s.mapAt ⟨n, h⟩) = false) ∧
  (∀ i : Fin 128, n = 256 + i → checkFails (s.sourceAt i) = false) ∧
  (∀ i : Fin 16, n = 384 + i → checkFails s.tables.group[i] = false)

/-- The entries that the Scrubber visits at the next house frame boundary of a run are whole (R59). -/
def ScrubFindsWhole (s : State) : Prop :=
  s.mgmt.device = .running → s.tables.scrubPos < 400 ∧
    ∀ j < s.settings.scrubRate, PositionWhole s ((s.tables.scrubPos + j) % 400)

/-- What the check of a Table Store position leaves (R58, R62 to R64). A whole entry, or none, is passed over. A VALID
entry whose check fails becomes DAMAGED and raises TABLE_DAMAGE with its table and index, and the damage action
follows: of a source entry with its context open, KEEP marks the working copy stale and CLOSE closes the context; of a
group entry, the group's pending claps end in some order (a free value, log entry 7). -/
def CheckLeaves (n : Nat) (s t : State) : Prop :=
  (PositionWhole s n → t = s) ∧
  (∀ (h : n < 256) (e : Stored MapEntry), s.mapAt ⟨n, h⟩ = some e → e.damaged = false →
    e.checkGood = false →
    t = raise .tableDamage [0, byteOf n] (s.setMap ⟨n, h⟩ (some { e with damaged := true }))) ∧
  (∀ (i : Fin 128) (e : Stored SourceEntry), n = 256 + i → s.sourceAt i = some e → e.damaged = false →
    e.checkGood = false →
    let s1 := raise .tableDamage [1, byteOf i] (s.setSource i (some { e with damaged := true }))
    ((s.ctx i).state = .closed → t = s1) ∧
    ((s.ctx i).state ≠ .closed → s.settings.sourceAction = .keep →
      t = s1.setCtx i { s.ctx i with stale := true }) ∧
    ((s.ctx i).state ≠ .closed → s.settings.sourceAction = .close →
      ∃ order : List Nat, order.Perm (s.takesWaitingFor i (s.ctx i).gen) ∧ t = s1.contextClosed i order)) ∧
  (∀ (i : Fin 16) (e : Stored GroupEntry), n = 384 + i → s.tables.group[i] = some e → e.damaged = false →
    e.checkGood = false →
    let ended := (s.pairing.claps.filter fun c => c.group == (i : Nat) + 1).map PendingClap.take
    ∃ order : List Nat, order.Perm ended ∧ t = order.foldl State.clapEnded
      { raise .tableDamage [2, byteOf (i + 1)] (s.setGroup i (some { e with damaged := true })) with
        freeDraws := s.freeDraws + 1 })

/-- The Scrubber's visits at a house frame boundary, `f j` the state after `j` of them: each is the check of the
position the Scrubber stands at, which it then leaves for the next, from 399 for 0 (R59). -/
def ScrubVisits (visits : Nat) (f : Nat → State) : Prop :=
  let p := (f 0).tables.scrubPos
  ∀ j < visits, ∃ u, CheckLeaves ((p + j) % 400) (f j) u ∧
    f (j + 1) = { u with tables := { u.tables with scrubPos := (p + j + 1) % 400 } }

/-- A house frame opened `n` cycles on: the frame phase at 0 with the captured rate's period, and in a run PT at `pt`
(R2, R3). The frame-paced blocks have not acted yet. -/
def State.frameOpened (s : State) (n pt : Nat) : State :=
  { s with clock := { s.clock with
    now := s.clock.now + n, phase := 0, k := 0, hold := 0
    period := (houseRate s.clock.params.rate).period
    pt := if s.mgmt.device = .running then pt else s.clock.pt } }

/-- The silence counters and the tick countdown at a house frame boundary of a run (R18, R117). -/
def State.frameCounted (s : State) : State :=
  { s with
    contexts := s.contexts.map fun x =>
      if x.state ≠ .closed ∧ x.state ≠ .lost ∧ x.anchor ≠ none then { x with silence := x.silence - 1 }
      else x
    tick := if s.settings.tickInterval = 0 ∨ s.clock.pt = Config.maxPt then s.tick
      else { countdown := s.tick.countdown - 1, due := s.tick.countdown - 1 == 0 } }

/-- A house frame begun `n` cycles on, PT standing at `pt` in a run: the frame opened, and in a run the Scrubber's
position moved over whole entries, the silence counters and the tick countdown counted (R2, R3, R18, R59, R117). The
tick lines have not followed yet. -/
def State.frameBegun (s : State) (n pt : Nat) : State :=
  let t := s.frameOpened n pt
  if s.mgmt.device = .running then
    State.frameCounted { t with
      tables := { t.tables with scrubPos := (s.tables.scrubPos + s.settings.scrubRate) % 400 } }
  else t

end Sys2Proof.Machine
end

