-- ==== Sys2Proof/WellFormed.lean ====
section
/-! DEFINITION. When a command's operands lie in the ranges the manual gives them. -/

namespace Sys2Proof

/-- The operands of a command are in range: a source slot is 0 to 127 (00, section 5.7), a take number is 1
to 65,535 (R146), a place of the held list is 0 to 15 (R143), and the physical layer delivers a run of at
least one byte (02, section 2.1). -/
def Instr.wellFormed : Instr → Bool
  | .silenceExpiry slot => slot < 128
  | .clapDeadline take => 1 ≤ take && take ≤ 65535
  | .transientDeadline place => place < 16
  | .cellArrival _ wire => !wire.isEmpty
  | .powerUp | .resetnAssert | .resetnRelease | .bootRecordReadEnd | .bootRecordWriteEnd
  | .refinPulse | .missingTimerExpiry | .frameBoundary | .milliframeBoundary | .tickDue
  | .tickLineToggle _ | .tickbChainedToggle | .cellHeaderComplete _ | .cellSendStart _
  | .cellSendEnd _ | .validationWalkEnd | .runBegin | .mgmtHandlingEnd | .locateServiceEnd
  | .setAddress | .identify | .forget | .saveAddress | .clockApply | .run | .halt | .clear
  | .mapKey | .unmapKey | .readMap | .writeSource | .readSource | .writeGroup | .readGroup
  | .inject | .writeParams | .readParams | .openSource | .closeSource | .reopenSource
  | .readContext | .readStatus | .readEvents | .clearEvents | .unknownRequest
  | .locateTime | .locateCount | .takeQuery | .takeFind | .takeAt | .powerLost
  | .validationWalkCheck | .transmitterHoldOff _ | .transmitterHoldOffEnd _ => true

end Sys2Proof
end

