-- ==== Sys2Proof/Laws/PerInstr.lean ====
section
/-! SUPPORT. Statements about every command, one lemma for each constructor of `Instr`. -/

set_option Elab.async false

namespace Sys2Proof.Laws

/-- A management request's command has a kind code of the Management Unit and no operands to check (R27, R32). -/
def MgmtKind.Statement (i : Instr) : Prop :=
  ∀ k, Machine.mgmtKind i = some k → 1 ≤ k ∧ k ≤ 25 ∧ Machine.isLocateKind k = false ∧ i.wellFormed = true

theorem MgmtKind.powerUp : MgmtKind.Statement .powerUp := by intro _ h; cases h
theorem MgmtKind.resetnAssert : MgmtKind.Statement .resetnAssert := by intro _ h; cases h
theorem MgmtKind.resetnRelease : MgmtKind.Statement .resetnRelease := by intro _ h; cases h
theorem MgmtKind.bootRecordReadEnd : MgmtKind.Statement .bootRecordReadEnd := by intro _ h; cases h
theorem MgmtKind.bootRecordWriteEnd : MgmtKind.Statement .bootRecordWriteEnd := by intro _ h; cases h
theorem MgmtKind.refinPulse : MgmtKind.Statement .refinPulse := by intro _ h; cases h
theorem MgmtKind.missingTimerExpiry : MgmtKind.Statement .missingTimerExpiry := by intro _ h; cases h
theorem MgmtKind.frameBoundary : MgmtKind.Statement .frameBoundary := by intro _ h; cases h
theorem MgmtKind.milliframeBoundary : MgmtKind.Statement .milliframeBoundary := by intro _ h; cases h
theorem MgmtKind.tickDue : MgmtKind.Statement .tickDue := by intro _ h; cases h
theorem MgmtKind.tickLineToggle (line : Line) : MgmtKind.Statement (.tickLineToggle line) := by intro _ h; cases h
theorem MgmtKind.tickbChainedToggle : MgmtKind.Statement .tickbChainedToggle := by intro _ h; cases h
theorem MgmtKind.cellHeaderComplete (port : Port) : MgmtKind.Statement (.cellHeaderComplete port) := by intro _ h; cases h
theorem MgmtKind.cellArrival (port : Port) (wire : List Byte) : MgmtKind.Statement (.cellArrival port wire) := by intro _ h; cases h
theorem MgmtKind.cellSendStart (port : Port) : MgmtKind.Statement (.cellSendStart port) := by intro _ h; cases h
theorem MgmtKind.cellSendEnd (port : Port) : MgmtKind.Statement (.cellSendEnd port) := by intro _ h; cases h
theorem MgmtKind.silenceExpiry (slot : Nat) : MgmtKind.Statement (.silenceExpiry slot) := by intro _ h; cases h
theorem MgmtKind.clapDeadline (take : Nat) : MgmtKind.Statement (.clapDeadline take) := by intro _ h; cases h
theorem MgmtKind.transientDeadline (place : Nat) : MgmtKind.Statement (.transientDeadline place) := by intro _ h; cases h
theorem MgmtKind.validationWalkEnd : MgmtKind.Statement .validationWalkEnd := by intro _ h; cases h
theorem MgmtKind.runBegin : MgmtKind.Statement .runBegin := by intro _ h; cases h
theorem MgmtKind.mgmtHandlingEnd : MgmtKind.Statement .mgmtHandlingEnd := by intro _ h; cases h
theorem MgmtKind.locateServiceEnd : MgmtKind.Statement .locateServiceEnd := by intro _ h; cases h
theorem MgmtKind.setAddress : MgmtKind.Statement .setAddress := by intro _ h; cases h; decide
theorem MgmtKind.identify : MgmtKind.Statement .identify := by intro _ h; cases h; decide
theorem MgmtKind.forget : MgmtKind.Statement .forget := by intro _ h; cases h; decide
theorem MgmtKind.saveAddress : MgmtKind.Statement .saveAddress := by intro _ h; cases h; decide
theorem MgmtKind.clockApply : MgmtKind.Statement .clockApply := by intro _ h; cases h; decide
theorem MgmtKind.run : MgmtKind.Statement .run := by intro _ h; cases h; decide
theorem MgmtKind.halt : MgmtKind.Statement .halt := by intro _ h; cases h; decide
theorem MgmtKind.clear : MgmtKind.Statement .clear := by intro _ h; cases h; decide
theorem MgmtKind.mapKey : MgmtKind.Statement .mapKey := by intro _ h; cases h; decide
theorem MgmtKind.unmapKey : MgmtKind.Statement .unmapKey := by intro _ h; cases h; decide
theorem MgmtKind.readMap : MgmtKind.Statement .readMap := by intro _ h; cases h; decide
theorem MgmtKind.writeSource : MgmtKind.Statement .writeSource := by intro _ h; cases h; decide
theorem MgmtKind.readSource : MgmtKind.Statement .readSource := by intro _ h; cases h; decide
theorem MgmtKind.writeGroup : MgmtKind.Statement .writeGroup := by intro _ h; cases h; decide
theorem MgmtKind.readGroup : MgmtKind.Statement .readGroup := by intro _ h; cases h; decide
theorem MgmtKind.inject : MgmtKind.Statement .inject := by intro _ h; cases h; decide
theorem MgmtKind.writeParams : MgmtKind.Statement .writeParams := by intro _ h; cases h; decide
theorem MgmtKind.readParams : MgmtKind.Statement .readParams := by intro _ h; cases h; decide
theorem MgmtKind.openSource : MgmtKind.Statement .openSource := by intro _ h; cases h; decide
theorem MgmtKind.closeSource : MgmtKind.Statement .closeSource := by intro _ h; cases h; decide
theorem MgmtKind.reopenSource : MgmtKind.Statement .reopenSource := by intro _ h; cases h; decide
theorem MgmtKind.readContext : MgmtKind.Statement .readContext := by intro _ h; cases h; decide
theorem MgmtKind.readStatus : MgmtKind.Statement .readStatus := by intro _ h; cases h; decide
theorem MgmtKind.readEvents : MgmtKind.Statement .readEvents := by intro _ h; cases h; decide
theorem MgmtKind.clearEvents : MgmtKind.Statement .clearEvents := by intro _ h; cases h; decide
theorem MgmtKind.unknownRequest : MgmtKind.Statement .unknownRequest := by intro _ h; cases h
theorem MgmtKind.locateTime : MgmtKind.Statement .locateTime := by intro _ h; cases h
theorem MgmtKind.locateCount : MgmtKind.Statement .locateCount := by intro _ h; cases h
theorem MgmtKind.takeQuery : MgmtKind.Statement .takeQuery := by intro _ h; cases h
theorem MgmtKind.takeFind : MgmtKind.Statement .takeFind := by intro _ h; cases h
theorem MgmtKind.takeAt : MgmtKind.Statement .takeAt := by intro _ h; cases h
theorem MgmtKind.powerLost : MgmtKind.Statement .powerLost := by intro _ h; cases h
theorem MgmtKind.validationWalkCheck : MgmtKind.Statement .validationWalkCheck := by intro _ h; cases h
theorem MgmtKind.transmitterHoldOff (port : Port) : MgmtKind.Statement (.transmitterHoldOff port) := by intro _ h; cases h
theorem MgmtKind.transmitterHoldOffEnd (port : Port) : MgmtKind.Statement (.transmitterHoldOffEnd port) := by intro _ h; cases h

end Sys2Proof.Laws
end

