-- ==== Sys2Proof/Certificates/Slice0/Obligations.lean ====
section
/-! DEFINITION. The statements for the provers. Where a statement rests on a choice of the model, its docstring
names the entry of the assumption log. -/

section Statements

open Sys2Proof Sys2Proof.Machine

/-! ### The machine as a whole -/

/-- A step runs the command at the front of the queue, with the queue's rest. -/
def Obligations.StepRunsFrontCommand : Prop :=
  ∀ (c : Instr) (rest : List Instr) (s : State),
    step { s with pending := c :: rest } = exec c { s with pending := rest }

/-- With no command waiting the model lets one MCLK cycle pass when nothing is due and nothing can begin, and
nothing at all while the part is held (the model's choice, log entry 1). -/
def Obligations.EmptyQueuePassesOneCycle : Prop :=
  ∀ s : State, s.pending = [] →
    (s.alive = false → step s = .next s) ∧
    (s.alive = true → Quiet s → NothingEndsWithin 1 s → (∀ n t, s.tables.walk ≠ .checking n t) →
      (s.mgmt.inbox = [] ∨ s.mgmt.handling ≠ none) →
      (s.locate.queue = [] ∨ s.locate.service ≠ none) →
      canSend s .stage = false → canSend s .post = false → cyclesToBoundary s ≠ 0 →
      step s = .next { s with
        clock := { s.clock with now := s.clock.now + 1, phase := s.clock.phase + 1 } })

/-- While the power is off or RESETn is low, every command but the supply's, RESETn's, the physical layer's and those of
a cell's reception leaves the state as it is, and of a cell that reaches a port then nothing but the mark of a
discarded cell is taken (R170: neither port receives or sends; R29). That a command of the part's own answers next
with the state unchanged while the part is held is the model's choice (log entry 3), and so is that a cell begun then
is discarded with its rest (log entry 9). -/
def Obligations.HeldPartIgnoresCommands : Prop :=
  ∀ s : State, s.alive = false →
    (∀ c : Instr, c ≠ .powerUp → c ≠ .powerLost → c ≠ .resetnAssert → c ≠ .resetnRelease →
      (∀ p, c ≠ .transmitterHoldOff p) → (∀ p, c ≠ .transmitterHoldOffEnd p) →
      (∀ p, c ≠ .cellHeaderComplete p) → (∀ p w, c ≠ .cellArrival p w) → exec c s = .next s) ∧
    (∀ p, exec (.cellHeaderComplete p) s = .next (s.setPort p { s.port p with
      header := some { pt := 0, beforeStarting := false, discarded := true } })) ∧
    (∀ p w, exec (.cellArrival p w) s = .next (s.setPort p { s.port p with header := none }))

/-- The state right after reset has every invariant. -/
def Obligations.ResetHasEveryInvariant : Prop :=
  WithinCapacity State.reset ∧ WithinRanges State.reset ∧ EventsSound State.reset ∧
  AlarmFollowsFlags State.reset ∧ PictureTimeInStep State.reset ∧ FreeExactlyInternal State.reset ∧
  AddressFitsState State.reset ∧ StillWhileReset State.reset ∧ MapUnique State.reset ∧
  EntriesInRange State.reset ∧ RestsOutsideRun State.reset ∧ LogNumbered State.reset ∧
  CellsConserved State.reset

/-- What reset leaves: BOOT without an address, PT 0, the captured parameters at their defaults (R1), the tables
EMPTY (R44), every context as R101 gives it, the lines as R21 gives them, no event (R194). Values for which the
manual gives none are the model's (log entry 17). -/
def Obligations.ResetLeavesPowerUpValues : Prop :=
  let s := State.reset
  s.mgmt = { device := .boot, address := none, inbox := [], handling := none } ∧
  s.clock.pt = 0 ∧ s.clock.phase = 0 ∧ s.clock.k = 0 ∧ s.clock.state = .free ∧
  s.clock.params = {
    rate := 0, dropFrame := false, externalRef := false, divisor := 1, tolerance := 2700
    window := 270, lockCount := 4, lossCount := 3 } ∧
  s.monitor = { last := none, good := 0, bad := 0, missing := false, armed := true, noise := 0 } ∧
  s.settings = {
    epochIndex := 0, tickInterval := 24, scrubRate := 4, sourceAction := .keep
    mapAction := .ignore } ∧
  s.lines.a.high = true ∧ s.lines.b.high = false ∧ s.lines.a.counter = 12 ∧ s.lines.b.counter = 12 ∧
  s.portS.queue = [] ∧ s.portP.queue = [] ∧ s.portS.sequence = 0 ∧ s.portP.sequence = 0 ∧
  s.portS.counters = {} ∧ s.portP.counters = {} ∧
  (∀ i : Fin 256, s.mapAt i = none) ∧ (∀ i : Fin 128, s.sourceAt i = none) ∧
  (∀ i : Fin 16, s.tables.group[i] = none) ∧ s.tables.scrubPos = 0 ∧
  (∀ i : Fin 128, s.ctx i = { state := .closed, work := none, gen := 0, anchor := none }) ∧
  s.log = { entries := [], nextSeq := 0 } ∧ s.locate.queue = [] ∧
  s.pairing = { takes := [], claps := [], held := [], nextTake := 1, policy := .shift } ∧
  (∀ i : Fin 18, s.events[i] = { flag := false, count := 0, detail := none }) ∧ s.faultn = false ∧
  defaultedCodes s = [] ∧
  ((List.range fieldCount).map s.param = [0, 0, 0, 1, 2700, 270, 4, 3, 0, 24, 4, 0, 0, 0, 0, 1, 0] ++
    List.replicate 18 1 ++ [0, 1, 0, 0, 0, 0, 0, 0, 0, 0, 0, 0, 1, 0, 0, 0, 0, 1] ++ [0, 0, 12, 12, 0])

/-! ### Invariants that every step keeps -/

/-- Every step keeps the collections within their capacities, the rows of a take within eight, and the counters of
ports, contexts and Reference Monitor, the sequence numbers and the positions in their ranges. -/
def Obligations.StepKeepsCapacitiesAndRanges : Prop :=
  ∀ s t : State, WithinCapacity s → WithinRanges s → step s = .next t →
    WithinCapacity t ∧ WithinRanges t

/-- Every step keeps the event classes sound, and FAULTn asserted exactly while an alarm class's flag is set. -/
def Obligations.StepKeepsEventsAndAlarm : Prop :=
  ∀ s t : State, EventsSound s → AlarmFollowsFlags s → step s = .next t →
    EventsSound t ∧ AlarmFollowsFlags t

/-- Every step keeps picture time in step with the milliframe index, and while a run lasts picture time never
decreases. -/
def Obligations.StepKeepsPictureTimeInStep : Prop :=
  ∀ s t : State, PictureTimeInStep s → step s = .next t →
    PictureTimeInStep t ∧
    (s.mgmt.device = .running → t.mgmt.device = .running → s.clock.pt ≤ t.clock.pt)

/-- Every step keeps the clock FREE exactly while the captured reference mode is INTERNAL, the node address fitting
the device state, and every block at its power-up value while the power is off or RESETn is low. That the part
stands still so with the power off, and what the power-up values keep, are deduced (log entries 15 and 16). -/
def Obligations.StepKeepsModesLegal : Prop :=
  ∀ s t : State, step s = .next t →
    (FreeExactlyInternal s → FreeExactlyInternal t) ∧ (AddressFitsState s → AddressFitsState t) ∧
    (StillWhileReset s → StillWhileReset t)

/-- Every step keeps the Stream Map without two entries of one key or of one slot, each in its key's set. -/
def Obligations.StepKeepsMapUnique : Prop :=
  ∀ s t : State, MapUnique s → step s = .next t → MapUnique t

/-- Every step keeps entries and working copies in their ranges, and trim and latency adjust within the limits of
the working copy. -/
def Obligations.StepKeepsEntriesInRange : Prop :=
  ∀ s t : State, EntriesInRange s → step s = .next t → EntriesInRange t

/-- Every step keeps every context CLOSED and the pairing lists empty outside RUNNING. -/
def Obligations.StepKeepsRestOutsideRun : Prop :=
  ∀ s t : State, RestsOutsideRun s → step s = .next t → RestsOutsideRun t

/-- Every step keeps the Anchor Log's entries consecutively numbered. -/
def Obligations.StepKeepsLogNumbered : Prop :=
  ∀ s t : State, LogNumbered s → step s = .next t → LogNumbered t

/-- Every step keeps the conservation of cells at both ports. -/
def Obligations.StepKeepsCellsConserved : Prop :=
  ∀ s t : State, CellsConserved s → step s = .next t → CellsConserved t

/-! ### Conversions and labels -/

/-- R68: the signed count difference. -/
def Obligations.CountDifferenceIsSmallestSigned : Prop :=
  ∀ c c0 : Nat, c < Config.countModulus → c0 < Config.countModulus →
    -(2 ^ 39 : Int) ≤ countDiff c c0 ∧ countDiff c c0 ≤ 2 ^ 39 - 1 ∧
    (countDiff c c0 = if ((c : Int) - c0) % 2 ^ 40 < 2 ^ 39 then ((c : Int) - c0) % 2 ^ 40
      else ((c : Int) - c0) % 2 ^ 40 - 2 ^ 40) ∧
    (∀ e j : Int, (c : Int) - c0 = e + j * 2 ^ 40 → |countDiff c c0| ≤ |e|)

/-- R70: both directions take the nearest integer of the exact rational, an exact half to the greater. -/
def Obligations.ConversionsRoundHalfUp : Prop :=
  ∀ v : Conversion, v.InRange →
    let h := houseRate v.rate
    let m : ℚ := (v.rd : ℚ) * h.hn * 1000 * (10 ^ 9 + v.trim) / ((v.rn : ℚ) * h.hd * 10 ^ 9)
    (∀ dc : Int, (ptDelta v dc : ℚ) - dc * m ≤ 1 / 2 ∧ -(1 / 2) < (ptDelta v dc : ℚ) - dc * m) ∧
    (∀ dh : Int, (countDelta v dh : ℚ) - dh / m ≤ 1 / 2 ∧ -(1 / 2) < (countDelta v dh : ℚ) - dh / m)

/-- R71, R73, R74: the results of both conversions, their clamp indications and the range test. -/
def Obligations.ConversionResultsAndClamps : Prop :=
  ∀ (v : Conversion) (held : Bool), v.InRange →
    (∀ c : Nat,
      (rawPt v c < 0 → forward v held c = ⟨0, true⟩) ∧
      ((Config.maxPt : Int) < rawPt v c → forward v held c = ⟨Config.maxPt, true⟩) ∧
      (0 ≤ rawPt v c → rawPt v c ≤ Config.maxPt →
        ((forward v held c).value : Int) = rawPt v c ∧ (forward v held c).clamped = held)) ∧
    (∀ h : Nat,
      let dc := countDelta v ((h : Int) - v.pt0)
      (dc < -(2 ^ 39) ∨ 2 ^ 39 - 1 < dc → reverse v held h = none) ∧
      (-(2 ^ 39) ≤ dc → dc ≤ 2 ^ 39 - 1 →
        ∃ c, reverse v held h = some ⟨c, held⟩ ∧ (c : Int) = ((v.c0 : Int) + dc) % 2 ^ 40 ∧
          countDiff c v.c0 = dc))

/-- R75 and R76: a round trip moves a count by at most (u + 1) / 2 and a picture time by at most (m + 1) / 2, where
m is `ratioNum v / ratioDen v` and u its inverse. -/
def Obligations.RoundTripsWithinHalfUnits : Prop :=
  ∀ (v : Conversion) (held : Bool), v.InRange →
    (∀ (c : Nat) (r : Converted), c < Config.countModulus → 0 ≤ rawPt v c → rawPt v c ≤ Config.maxPt →
      reverse v held (forward v held c).value = some r →
      2 * ratioNum v * |countDiff r.value c| ≤ ratioDen v + ratioNum v ∧
      (ratioDen v < ratioNum v → r.value = c)) ∧
    (∀ (h : Nat) (r : Converted), h ≤ Config.maxPt → reverse v held h = some r →
      0 ≤ rawPt v r.value → rawPt v r.value ≤ Config.maxPt →
      2 * ratioDen v * |((forward v held r.value).value : Int) - h| ≤ ratioNum v + ratioDen v ∧
      (ratioNum v < ratioDen v → (forward v held r.value).value = h))

/-- R77: both conversions preserve order. -/
def Obligations.ConversionsPreserveOrder : Prop :=
  ∀ (v : Conversion) (held : Bool), v.InRange →
    (∀ c1 c2 : Nat, countDiff c1 v.c0 ≤ countDiff c2 v.c0 →
      (forward v held c1).value ≤ (forward v held c2).value) ∧
    (∀ d1 d2 : Int, d1 ≤ d2 → countDelta v d1 ≤ countDelta v d2)

/-- R9: which labels are valid, and that labels and frame indices of a label day answer each other. -/
def Obligations.LabelsAndIndicesRoundTrip : Prop :=
  ∀ p : ClockParams, p.rate ≤ 8 → (p.dropFrame = true → p.rate = 3 ∨ p.rate = 7) →
    (∀ l : Label, labelValid p l = true ↔
      l.hh ≤ 23 ∧ l.mm ≤ 59 ∧ l.ss ≤ 59 ∧ l.ff < (houseRate p.rate).nominal ∧
        ¬ (p.dropFrame = true ∧ l.ss = 0 ∧ l.mm % 10 ≠ 0 ∧ l.ff ≤ if p.rate = 7 then 3 else 1)) ∧
    (∀ n : Nat, n < labelDay p →
      labelValid p (labelOfIndex p n) = true ∧ indexOfLabel p (labelOfIndex p n) = n) ∧
    (∀ l : Label, labelValid p l = true →
      indexOfLabel p l < labelDay p ∧ labelOfIndex p (indexOfLabel p l) = l)

/-! ### Cells -/

/-- Every cell the part makes, and every mark it stamps, is a good cell that carries what it should: a made cell
its destination, origin, kind, sequence number and payload, with stamped flag, spare bit and stream 0 (R36, R38);
a stamped mark every byte of the mark but the stamped flag and the trailer, with the twelve bytes of Table 2-3
after its payload (R37). A cell of the part's own takes the port's sequence counter, which advances (R38). -/
def Obligations.MadeAndStampedCellsAreGood : Prop :=
  (∀ (dest origin : Byte) (kind sequence : Nat) (payload : List Byte),
    kind < 16 → sequence < 256 → payload.length ≤ 56 →
    let w := madeCell dest origin kind sequence payload
    cellGood w = true ∧ cellKind w = kind ∧ cellStamped w = false ∧ cellPayload w = payload ∧
      w.length = 6 + payload.length ∧ byteAt w 0 = dest ∧ byteAt w 1 = origin ∧
      (byteAt w 2).toNat = kind * 16 ∧ (byteAt w 3).toNat = sequence ∧
      (byteAt w 4).toNat = payload.length ∧ byteAt w (5 + payload.length) = crc w.dropLast) ∧
  (∀ (s : State) (port : Port) (dest : Byte) (kind : Nat) (payload : List Byte),
    let x := s.port port
    s.pushMade port dest kind payload = s.setPort port { x with
      queue := x.queue ++ [madeCell dest (byteOf (s.mgmt.address.getD 0)) kind x.sequence payload]
      sequence := (x.sequence + 1) % 256 }) ∧
  (∀ (s : State) (w : Cell) (x : Stamp) (slot : Byte), cellGood w = true → cellStamped w = false →
    let v := stampedCell w (stampBlock s x slot)
    let p := s.clock.params
    let l := labelOfIndex p ((s.settings.epochIndex + x.pt / 1000) % labelDay p)
    let status : Byte := match x.status with
      | .locked => 0 | .tracking => 1 | .anchored => 2 | .duplicate => 3 | .stale => 4 | .clamped => 5
      | .unmapped => 6 | .closed => 7
    cellGood v = true ∧ cellStamped v = true ∧ cellPayload v = cellPayload w ∧
      cellKind v = cellKind w ∧ cellKey v = cellKey w ∧ cellDest v = cellDest w ∧
      byteAt v 2 = byteAt w 2 ||| 8 ∧ v.length = w.length + 12 ∧
      (∀ i < 5 + cellLength w, i ≠ 2 → byteAt v i = byteAt w i) ∧
      field v (5 + cellLength w) 12 = beBytes 6 x.pt ++
        [byteOf l.hh, byteOf l.mm, byteOf l.ss, byteOf ((if p.dropFrame then 128 else 0) + l.ff), status, slot] ∧
      byteAt v (w.length + 11) = crc v.dropLast)

/-- R30: a damaged cell is counted and raises LINK_DAMAGE, and nothing else comes of it. -/
def Obligations.DamagedCellRaisesLinkDamage : Prop :=
  ∀ (port : Port) (w : Cell) (s : State), s.alive = true → s.discards port = false → cellGood w = false →
    exec (.cellArrival port w) s = .next (raise .linkDamage [portCode port]
      (s.received port fun x => { x with damaged := bump x.damaged }))

/-- R31 to R34: in every device state a good cell that is neither for the part nor to be stamped is forwarded
unchanged: one that is no request and no mark; a request whose destination is not the part's address, any in
BOOT, unless it is a broadcast of RUN, HALT or CLOCK_APPLY that the part takes; a stamped mark; a short mark; and,
outside RUNNING, any mark. A full queue drops it as overrun (R40). -/
def Obligations.PassingCellIsForwardedUnchanged : Prop :=
  ∀ (port : Port) (w : Cell) (s : State) (f : Counters → Counters),
    s.alive = true → s.discards port = false → cellGood w = true →
    (match markNeed (cellKind w) with
      | none => f = id ∧ (cellKind w = 5 →
          (s.mgmt.device = .boot ∨ s.mgmt.address ≠ some (cellDest w)) ∧
          (s.mgmt.device = .boot ∨ s.mgmt.device = .addressing ∨ cellDest w ≠ 255 ∨
            (cellPayload w).length < 2 ∨ ∀ k ∈ [5, 6, 7], (byteAt (cellPayload w) 0).toNat ≠ k))
      | some need =>
        if cellStamped w then f = fun x => { x with alreadyStamped := bump x.alreadyStamped }
        else if cellLength w < need then f = fun x => { x with shortMarks := bump x.shortMarks }
        else s.mgmt.device ≠ .running ∧ f = id) →
    (s.hasRoom (otherPort port) = true →
      exec (.cellArrival port w) s = .next ((s.received port f).relayed port w)) ∧
    (s.hasRoom (otherPort port) = false →
      exec (.cellArrival port w) s = .next (raise .egressDrop (dropDetail (otherPort port) 0)
        ((s.received port f).countAt (otherPort port) fun x =>
          { x with overrun := bump x.overrun })))

/-- R32, R33, R40, R130, R173, R174: a request for this part joins the queue of its unit, or is answered BUSY at a full
one, a MAP with its key (R48, log entry 14); a locate or take request is answered BUSY in STARTING and STATE in
ADDRESSING; one with less than two payload bytes is consumed without a reply. A broadcast RUN, HALT or
CLOCK_APPLY joins the inbox and is forwarded too; at a full inbox it is only forwarded; and one that meets the other
port's full queue is taken all the same, its forwarding dropped as overrun with EGRESS_DROP. -/
def Obligations.RequestJoinsItsQueue : Prop :=
  ∀ (port : Port) (w : Cell) (s : State),
    s.alive = true → s.discards port = false → cellGood w = true → cellKind w = 5 →
    let r := requestOf port false w
    let s1 := s.received port fun x => { x with consumed := bump x.consumed }
    (s.mgmt.device ≠ .boot → s.mgmt.address = some (cellDest w) → (cellPayload w).length < 2 →
      exec (.cellArrival port w) s = .next s1) ∧
    (s.mgmt.device ≠ .boot → s.mgmt.address = some (cellDest w) → 2 ≤ (cellPayload w).length →
      isLocateKind r.kind = false →
      exec (.cellArrival port w) s = .next
        (if s.mgmt.inbox.length < 4 then
          { s1 with mgmt := { s1.mgmt with inbox := s.mgmt.inbox ++ [r] } }
        else joinReply port r.origin (replyPayload r .busy (refusalData r)) s1)) ∧
    (s.mgmt.device ≠ .boot → s.mgmt.address = some (cellDest w) → 2 ≤ (cellPayload w).length →
      isLocateKind r.kind = true →
      exec (.cellArrival port w) s = .next (match s.mgmt.device with
        | .configuring | .running =>
          if s.locate.queue.length < 8 then
            { s1 with locate := { s1.locate with queue := s.locate.queue ++ [r] } }
          else joinReply port r.origin (replyPayload r .busy []) s1
        | .starting => joinReply port r.origin (replyPayload r .busy []) s1
        | .addressing | .boot => joinReply port r.origin (replyPayload r .state []) s1)) ∧
    (s.mgmt.device = .configuring ∨ s.mgmt.device = .starting ∨ s.mgmt.device = .running →
      s.mgmt.address ≠ some 255 → cellDest w = 255 → 2 ≤ (cellPayload w).length →
      r.kind = 5 ∨ r.kind = 6 ∨ r.kind = 7 →
      let s2 := s.received port fun x => { x with broadcastTaken := bump x.broadcastTaken }
      let s3 := if s.mgmt.inbox.length < 4 then { s2 with
        mgmt := { s2.mgmt with inbox := s.mgmt.inbox ++ [requestOf port true w] } } else s2
      exec (.cellArrival port w) s = .next (if s.hasRoom (otherPort port) then s3.relayed port w
        else raise .egressDrop (dropDetail (otherPort port) 0)
          (s3.countAt (otherPort port) fun x => { x with overrun := bump x.overrun })))

/-! ### Marks in a run -/

/-- R82 to R86, R91 to R93: what the part does with a mark that reaches the Stamping Unit. Its arrival PT is that of
its header, 0 for a header taken before the run's STARTING; with no header signalled it is the present PT (the
model's choice, log entry 9). A mark whose key is absent is stamped UNMAPPED with slot 255 and raises
UNMAPPED_SOURCE; one whose slot stays CLOSED is stamped CLOSED; both carry the arrival PT, and nothing else
changes. A mark on an open context, or one that opens it first, is handled by its kind: a PACE mark is judged by
`pace`; an event mark is converted under the context's anchor, or without one stamped as an anchor set at its
arrival would stamp it, and handed to the Pairing Unit. -/
def Obligations.ArrivingMarkIsStamped : Prop :=
  ∀ (port : Port) (w : Cell) (s : State), ReachesStamping s port w →
    let a := match (s.port port).header with
      | some h => if h.beforeStarting then 0 else h.pt
      | none => s.clock.pt
    let s1 := s.received port id
    let stamped (slot : Byte) (v : Tracked) : State :=
      joinForwarded (otherPort port) (stampedCell w (stampBlock v.state v.stamp slot)) v.state
    let handled (slot : Fin 128) (t : State) : Tracked :=
      let c := t.ctx slot
      let d := cellPayload w
      let count := fieldNat d 0 5
      let x : Stamp := match c.anchor with
        | some b =>
          let v := forward (contextConversion t c b) (ptHeld t) count
          ⟨v.value, if v.clamped then .clamped else if c.state = .locked then .locked
            else if c.state = .lost then .stale else .tracking⟩
        | none => ⟨c.anchorPtAt a, .tracking⟩
      if cellKind w = 1 then pace slot count a t
      else if cellKind w = 2 then
        ⟨handleClap { slot := slot, pt := x.pt, arrival := a, label := readLabel (field d 5 4)
                      scene := field d 9 6, codeNumber := fieldNat d 15 2 } t, x⟩
      else ⟨handleTransient slot count x.pt t, x⟩
    (s.lookup (cellKey w) = none →
      exec (.cellArrival port w) s = .next (stamped 255
        ⟨raise .unmappedSource (keyBytes (cellKey w) ++ [portCode port]) s1, ⟨a, .unmapped⟩⟩)) ∧
    (∀ slot, s.lookup (cellKey w) = some slot → (s.ctx slot).state = .closed →
      (∀ e, s.sourceAt slot = some e → e.damaged = true ∨ e.content.autoOpen = false) →
      exec (.cellArrival port w) s = .next (stamped (byteOf slot) ⟨s1, ⟨a, .closed⟩⟩)) ∧
    (∀ slot e, s.lookup (cellKey w) = some slot → (s.ctx slot).state = .closed →
      s.sourceAt slot = some e → e.damaged = false → e.content.autoOpen = true →
      exec (.cellArrival port w) s = .next (stamped (byteOf slot)
        (handled slot (s1.setCtx slot ((s.ctx slot).openedWith e.content))))) ∧
    (∀ slot, s.lookup (cellKey w) = some slot → (s.ctx slot).state ≠ .closed →
      exec (.cellArrival port w) s = .next (stamped (byteOf slot) (handled slot s1)))

/-- R90, R110: a PACE mark that repeats the last count of an open, anchored context that is not LOST changes the
marks and duplicates counters alone, and is stamped DUPLICATE, or CLAMPED (R94). -/
def Obligations.DuplicatePaceIsOnlyCounted : Prop :=
  ∀ (port : Port) (w : Cell) (s : State) (slot : Fin 128) (a : Anchor), ReachesStamping s port w →
    cellKind w = 1 → s.lookup (cellKey w) = some slot → (s.ctx slot).state ≠ .closed →
    (s.ctx slot).state ≠ .lost → (s.ctx slot).anchor = some a →
    countDiff (markCount w) (s.ctx slot).lastCount = 0 →
    let v := forward (contextConversion s (s.ctx slot) a) (ptHeld s) (markCount w)
    let x : Stamp := ⟨v.value, if v.clamped then .clamped else .duplicate⟩
    exec (.cellArrival port w) s = .next
      (joinForwarded (otherPort port) (stampedCell w (stampBlock s x (byteOf slot)))
        ((s.received port id).setCtx slot { s.ctx slot with
          marks := bump (s.ctx slot).marks, duplicates := bump (s.ctx slot).duplicates }))

/-- R108, R119, R120, R125, R127: the first PACE mark of an opening, and the first at a LOST context, anchors the
context at the mark's arrival and appends the anchor's entry, a full Log losing its oldest; a LOST context's old
segment ends at the last count and last converted PT, and its state becomes ACQUIRING. -/
def Obligations.PaceMarkAnchorsAtArrival : Prop :=
  ∀ (slot : Fin 128) (count arrival : Nat) (s : State) (w : SourceEntry),
    let c := s.ctx slot
    let pt0 := (max 0 (min ((arrival : Int) - (w.latency + c.adjust)) Config.maxPt)).toNat
    let marked : Context := { c with
      marks := bump c.marks, lastCount := count, lastArrival := arrival, lastConverted := pt0
      windowCount := 0, windowSum := 0, silence := w.silenceLimit }
    let stamp : Stamp := ⟨pt0, if s.clock.pt = Config.maxPt then .clamped else .anchored⟩
    c.work = some w →
    (c.state = .acquiring → c.anchor = none →
      pace slot count arrival s = ⟨s.anchoredAt slot marked w .opened count pt0, stamp⟩) ∧
    (c.state = .lost → c.anchor ≠ none →
      pace slot count arrival s = ⟨(s.segmentEnded c ⟨c.lastCount, c.lastConverted⟩).anchoredAt slot
        { marked with state := .acquiring } w .resume count pt0, stamp⟩)

/-- R89, R109, R111, R114: a normal PACE mark within the slip tolerance is absorbed; the one that fills the window
closes it after it was stamped under the anchor before. -/
def Obligations.NormalPaceIsAbsorbed : Prop :=
  ∀ (slot : Fin 128) (count arrival j : Nat) (s : State) (w : SourceEntry) (a : Anchor),
    let c := s.ctx slot
    let v := forward (contextConversion s c a) (ptHeld s) count
    let e : Int := v.value - (arrival - (w.latency + c.adjust))
    c.work = some w → c.anchor = some a → c.state = .acquiring ∨ c.state = .locked ∨ c.state = .drifting →
    1 ≤ j → j ≤ w.gapLimit → 1 ≤ w.stride → countDiff count c.lastCount = (j : Int) * w.stride →
    |e| ≤ w.slipTol →
    let absorbed := s.setCtx slot { c with
      marks := bump c.marks, missed := min (c.missed + (j - 1)) Config.maxCounter
      windowSum := c.windowSum + e, windowCount := c.windowCount + 1, lastCount := count
      lastArrival := arrival, lastConverted := v.value, silence := w.silenceLimit }
    pace slot count arrival s =
      { state := if w.window ≤ c.windowCount + 1 then windowClose slot count v.value absorbed else absorbed
        stamp := ⟨v.value, if v.clamped then .clamped
          else if c.state = .locked then .locked else .tracking⟩ }

/-- R109, R112, R113, R120, R125 to R127: a jump and a slip re-anchor the context at the mark's arrival: the old
segment ends at the last count and last converted PT, and the anchor's entry, reason JUMP or SLIP, is appended, a
full Log losing its oldest. They are counted, make the context ACQUIRING, and raise SOURCE_JUMP with the count
difference or SOURCE_SLIP with the error. -/
def Obligations.JumpAndSlipReanchorAndRaise : Prop :=
  ∀ (slot : Fin 128) (count arrival : Nat) (s : State) (w : SourceEntry) (a : Anchor),
    let c := s.ctx slot
    let d := countDiff count c.lastCount
    let v := forward (contextConversion s c a) (ptHeld s) count
    let e : Int := v.value - (arrival - (w.latency + c.adjust))
    let pt0 := (max 0 (min ((arrival : Int) - (w.latency + c.adjust)) Config.maxPt)).toNat
    let stamp : Stamp := ⟨pt0, if s.clock.pt = Config.maxPt then .clamped else .anchored⟩
    let marked : Context := { c with
      state := .acquiring, marks := bump c.marks, lastCount := count, lastArrival := arrival
      lastConverted := pt0, windowCount := 0, windowSum := 0, silence := w.silenceLimit }
    let reanchored (x : Context) (reason : AnchorReason) : State :=
      (s.segmentEnded c ⟨c.lastCount, c.lastConverted⟩).anchoredAt slot x w reason count pt0
    c.work = some w → c.anchor = some a → c.state = .acquiring ∨ c.state = .locked ∨ c.state = .drifting →
    1 ≤ w.stride →
    (d ≠ 0 → (¬ ∃ j : Nat, 1 ≤ j ∧ j ≤ w.gapLimit ∧ d = (j : Int) * w.stride) →
      pace slot count arrival s =
        { state := raise .sourceJump ([byteOf slot] ++ signedBytes 5 d)
            (reanchored { marked with jumps := bump c.jumps } .jump)
          stamp := stamp }) ∧
    (∀ j : Nat, 1 ≤ j → j ≤ w.gapLimit → d = (j : Int) * w.stride → (w.slipTol : Int) < |e| →
      pace slot count arrival s =
        { state := raise .sourceSlip ([byteOf slot] ++ signedBytes 6 e)
            (reanchored { marked with
              missed := min (c.missed + (j - 1)) Config.maxCounter, slips := bump c.slips } .slip)
          stamp := stamp })

/-- R114 to R116, R127: a window close corrects trim and anchor by the mean error and sets the state; TRIM_LIMIT is
raised exactly when the trim limit changed the trim. A full Log loses its oldest entry. -/
def Obligations.WindowCloseCorrectsTrimAndAnchor : Prop :=
  ∀ (slot : Fin 128) (count converted : Nat) (s : State) (w : SourceEntry) (a : Anchor),
    let c := s.ctx slot
    let mean : Int := c.windowSum.tdiv w.window
    let open_ : Int := c.trim - w.gain * mean
    let trim : Int := max (-(w.trimLimit : Int)) (min open_ w.trimLimit)
    let pt0 := (max 0 (min ((converted : Int) - mean.tdiv 4) Config.maxPt)).toNat
    let s1 := if trim = open_ then s else raise .trimLimit ([byteOf slot] ++ signedBytes 4 open_) s
    c.work = some w → c.anchor = some a → c.state = .acquiring ∨ c.state = .locked ∨ c.state = .drifting →
    windowClose slot count converted s = (s1.segmentEnded c ⟨count, converted⟩).anchoredAt slot { c with
        trim := trim, windowCount := 0, windowSum := 0
        state := if |mean| ≤ w.lockTol then .locked
          else if c.state = .acquiring then .acquiring else .drifting } w .window count pt0

/-! ### Pairing -/

/-- R144, R145, R149, R154, R155: which marks take part; the KEEP_FIRST policy at a full table; a transient pairs
with the nearest pending clap that it fits, the oldest of equals; one that fits none is held, or leaves at once if
its deadline has passed; a full list gives up its oldest. -/
def Obligations.PairingAdmitsAndHolds : Prop :=
  (∀ (m : ClapMark) (s : State),
    ((s.ctx m.slot).entry.cls ≠ .slate ∨ s.groupAt (s.ctx m.slot).entry.group = none →
      handleClap m s = s) ∧
    (∀ e, (s.ctx m.slot).entry.cls = .slate → s.groupAt (s.ctx m.slot).entry.group = some e →
      s.pairing.takes.length = 64 → s.pairing.policy = .keepFirst →
      handleClap m s = raise .takeFull ([byteOf m.slot] ++ m.scene ++ beBytes 2 m.codeNumber) s)) ∧
  (∀ (slot : Fin 128) (count pt : Nat) (s : State),
    let w := (s.ctx slot).entry
    (w.cls ≠ .recorder ∨ s.groupAt w.group = none ∨
        (∃ e, s.groupAt w.group = some e ∧ e.damaged = true) →
      handleTransient slot count pt s = s) ∧
    (∀ e, w.cls = .recorder → s.groupAt w.group = some e → e.damaged = false →
      let fits := ClapFits s w.group e.content.pairingWindow slot pt
      (∀ before c after t, s.pairing.claps = before ++ c :: after → fits c →
        (∀ d ∈ before, fits d → ptGap c.clapPt pt < ptGap d.clapPt pt) →
        (∀ d ∈ after, fits d → ptGap c.clapPt pt ≤ ptGap d.clapPt pt) → s.takeNumbered c.take = some t →
        handleTransient slot count pt s = pairRow t slot count pt s) ∧
      ((∀ c ∈ s.pairing.claps, ¬ fits c) →
        let h : HeldTransient :=
          ⟨slot, w.group, count, pt, min (pt + e.content.pairingWindow) Config.maxPt⟩
        (h.deadline ≤ s.clock.pt → handleTransient slot count pt s =
          raise .transientUnpaired ([byteOf slot] ++ beBytes 6 pt ++ [1]) s) ∧
        (s.clock.pt < h.deadline → s.pairing.held.length < 16 → handleTransient slot count pt s =
          { s with pairing := { s.pairing with held := s.pairing.held ++ [h] } }) ∧
        (∀ x rest, s.clock.pt < h.deadline → s.pairing.held = x :: rest → rest.length = 15 →
          handleTransient slot count pt s =
            let s1 := raise .transientUnpaired ([byteOf x.slot] ++ beBytes 6 x.pt ++ [0])
              { s with pairing := { s.pairing with held := rest } }
            { s1 with pairing := { s1.pairing with held := rest ++ [h] } }))))

/-- R149 to R153, R163: a clap of a VALID group makes one take under the next take number, with a row for each of the
first eight rolling members in ascending slot order, PENDING for a recorder and FIXED for the others, its count the
reverse conversion of the clap PT; the label difference is the signed distance of the labels in the label day, absent
for an invalid label, and SLATE_OFF is raised when the label is invalid or beyond the tolerance. Without a PENDING row
the take is CLOSED. With one it is OPEN and a pending clap is made, a full clap list ending its oldest first; then
each row takes the nearest held transient that it fits, the oldest of equals, and a clap whose deadline has passed
ends at once. A clap of a DAMAGED group makes a CLOSED take without rows, SLATE_OFF raised for an invalid label alone.
Under SHIFT a full Take Table first loses its oldest take, whose pending clap is ended if it is OPEN. -/
def Obligations.ClapMakesTake : Prop :=
  (∀ (m : ClapMark) (s : State) (e : Stored GroupEntry),
    let g := (s.ctx m.slot).entry.group
    let members := (List.finRange 128).filter fun i => decide (s.Rolling g e.content.rollingLimit m i)
    let rows := (members.take 8).map (s.rowOf m.pt)
    let diff := s.labelOff m.label m.pt
    let n := s.pairing.nextTake
    let take (isOpen : Bool) : Take :=
      { number := n, scene := m.scene, codeNumber := m.codeNumber, group := g, slate := m.slot
        clapPt := m.pt, labelDiff := diff, isOpen := isOpen, omitted := members.length - 8, rows := rows }
    let next := if n < 65535 then n + 1 else 1
    (s.ctx m.slot).entry.cls = .slate → s.groupAt g = some e → e.damaged = false →
    s.pairing.takes.length < 64 →
    let s1 := if (match diff with | some d => decide ((e.content.labelTol : Int) < |d|) | none => true)
      then raise .slateOff (beBytes 2 n ++ [byteOf m.slot, if diff.isSome then 0 else 1] ++
        signedBytes 4 (diff.getD 0)) s else s
    ((∀ i ∈ members.take 8, (s.ctx i).entry.cls ≠ .recorder) →
      handleClap m s = { s1 with pairing := { s.pairing with
        takes := s.pairing.takes ++ [take false], nextTake := next } }) ∧
    ((∃ i ∈ members.take 8, (s.ctx i).entry.cls = .recorder) →
      let s2 := match s.pairing.claps with
        | [] => s1
        | c :: _ => if s.pairing.claps.length < 8 then s1 else s1.clapEnded c.take
      handleClap m s = endIfPast n ((members.take 8).foldl (fun t i => visitRow n i t)
        { s2 with pairing := { s2.pairing with
          takes := s2.pairing.takes ++ [take true], nextTake := next
          claps := s2.pairing.claps ++
            [⟨n, g, m.pt, min (m.pt + e.content.pairingWindow) Config.maxPt⟩] } }))) ∧
  (∀ (m : ClapMark) (s : State) (e : Stored GroupEntry),
    let g := (s.ctx m.slot).entry.group
    let diff := s.labelOff m.label m.pt
    let n := s.pairing.nextTake
    (s.ctx m.slot).entry.cls = .slate → s.groupAt g = some e → e.damaged = true →
    s.pairing.takes.length < 64 →
    let s1 := if diff = none
      then raise .slateOff (beBytes 2 n ++ [byteOf m.slot, 1] ++ signedBytes 4 0) s else s
    handleClap m s = { s1 with pairing := { s.pairing with
      takes := s.pairing.takes ++ [{ number := n, scene := m.scene, codeNumber := m.codeNumber, group := g
                                     slate := m.slot, clapPt := m.pt, labelDiff := diff, isOpen := false
                                     omitted := 0, rows := [] }]
      nextTake := if n < 65535 then n + 1 else 1 } }) ∧
  (∀ (m : ClapMark) (s : State) (e : Stored GroupEntry) (t : Take) (rest : List Take),
    (s.ctx m.slot).entry.cls = .slate → s.groupAt (s.ctx m.slot).entry.group = some e →
    s.pairing.policy = .shift → s.pairing.takes = t :: rest → rest.length = 63 →
    let s1 := if t.isOpen = true then s.clapEnded t.number else s
    handleClap m s = handleClap m { s1 with pairing := { s1.pairing with takes := s1.pairing.takes.tail } }) ∧
  (∀ (n : Nat) (slot : Fin 128) (s : State) (t : Take) (e : Stored GroupEntry),
    s.takeNumbered n = some t → s.groupAt t.group = some e →
    let fits := HeldFits t e.content.pairingWindow slot
    ((∀ r ∈ t.rows, r.slot = slot → r.status ≠ .pending) ∨ (∀ h ∈ s.pairing.held, ¬ fits h) →
      visitRow n slot s = s) ∧
    (∀ before h after, (∃ r ∈ t.rows, r.slot = slot ∧ r.status = .pending) →
      s.pairing.held = before ++ h :: after → fits h →
      (∀ x ∈ before, fits x → ptGap h.pt t.clapPt < ptGap x.pt t.clapPt) →
      (∀ x ∈ after, fits x → ptGap h.pt t.clapPt ≤ ptGap x.pt t.clapPt) →
      visitRow n slot s = pairRow t slot h.count h.pt
        { s with pairing := { s.pairing with held := before ++ after } })) ∧
  (∀ (n : Nat) (s : State),
    ((∃ c ∈ s.pairing.claps, c.take = n ∧ c.deadline ≤ s.clock.pt) → endIfPast n s = s.clapEnded n) ∧
    ((∀ c ∈ s.pairing.claps, c.take = n → s.clock.pt < c.deadline) → endIfPast n s = s))

/-- R122, R156 to R158: a pairing gives the PENDING row the transient's count and the sync difference. One that the
policy leaves alone, and one whose CLAP re-anchor the Tracking Unit accepts, make the row PAIRED; a refused
re-anchor makes it DISAGREE, raises CLAP_DISAGREE and leaves the context. A take left without a PENDING row is
CLOSED without an event. An accepted CLAP re-anchor ties the transient count to the clap PT and moves the latency
adjust by the difference; a full Log loses its oldest entry (R127). -/
def Obligations.PairingResolvesRowAndReanchors : Prop :=
  (∀ (t : Take) (slot : Fin 128) (count pt : Nat) (s : State),
    s.takeNumbered t.number = some t →
    let c := s.ctx slot
    let delta : Int := (t.clapPt : Int) - pt
    let resolved (st : RowStatus) (u : Take) : Take :=
      if u.number = t.number then { u with rows := u.rows.map fun r =>
        if r.slot = slot ∧ r.status = .pending then
          { r with count := some count, delta := some delta, status := st } else r } else u
    let s1 (st : RowStatus) : State := { s with pairing := { s.pairing with
      takes := s.pairing.takes.map (resolved st) } }
    let closed (st : RowStatus) (v : State) : State :=
      if (resolved st t).rows.any (fun r => r.status == .pending) then v
      else { v with pairing := { v.pairing with
        takes := v.pairing.takes.map fun u => if u.number = t.number then { u with isOpen := false } else u
        claps := v.pairing.claps.filter fun d => d.take != t.number } }
    ((∀ e, s.groupAt t.group = some e →
        e.content.policy = .report ∨ |delta| < (e.content.stepThreshold : Int)) →
      pairRow t slot count pt s = closed .paired (s1 .paired)) ∧
    (∀ e, s.groupAt t.group = some e → e.content.policy = .step →
      (e.content.stepThreshold : Int) ≤ |delta| →
      (c.state ≠ .closed → |c.adjust - delta| ≤ c.entry.adjustLimit →
        pairRow t slot count pt s = closed .paired (clapReanchor slot count t.clapPt delta (s1 .paired))) ∧
      (c.state = .closed ∨ (c.entry.adjustLimit : Int) < |c.adjust - delta| →
        pairRow t slot count pt s = closed .disagree (raise .clapDisagree
          (beBytes 2 t.number ++ [byteOf slot] ++ signedBytes 4 delta) (s1 .disagree))))) ∧
  (∀ (slot : Fin 128) (count clapPt : Nat) (delta : Int) (s : State) (w : SourceEntry) (a : Anchor),
    let c := s.ctx slot
    c.work = some w → c.anchor = some a →
    clapReanchor slot count clapPt delta s =
      (s.segmentEnded c ⟨count, (forward (contextConversion s c a) (ptHeld s) count).value⟩).anchoredAt slot
        { c with adjust := c.adjust - delta, windowCount := 0, windowSum := 0 } w .clap count clapPt)

/-! ### Expiries -/

/-- R117, R159 to R161: a silence counter at 0 makes the context LOST with SOURCE_LOST; a clap at its deadline ends
with CLAP_UNPAIRED, its PENDING rows UNPAIRED and its take CLOSED; a held transient at its deadline leaves with
TRANSIENT_UNPAIRED. -/
def Obligations.ExpiriesEndWhatTheyTime : Prop :=
  (∀ (slot : Fin 128) (s : State), s.alive = true →
    (s.ctx slot).state = .acquiring ∨ (s.ctx slot).state = .locked ∨ (s.ctx slot).state = .drifting →
    (s.ctx slot).anchor ≠ none → (s.ctx slot).silence = 0 →
    exec (.silenceExpiry slot) s = .next (raise .sourceLost
      ([byteOf slot] ++ beBytes 6 (s.ctx slot).lastArrival)
      (s.setCtx slot { s.ctx slot with state := .lost }))) ∧
  (∀ (c : PendingClap) (t : Take) (s : State), s.alive = true → s.mgmt.device = .running →
    c ∈ s.pairing.claps → c.deadline ≤ s.clock.pt → s.takeNumbered c.take = some t →
    let unpaired (r : TakeRow) : TakeRow :=
      if r.status = .pending then { r with status := .unpaired } else r
    exec (.clapDeadline c.take) s = .next (raise .clapUnpaired
      (beBytes 2 c.take ++ beBytes 1 (min ((t.rows.map unpaired).countP fun r =>
        r.status == .unpaired) 255))
      { s with pairing := { s.pairing with
        takes := s.pairing.takes.map fun u =>
          if u.number = c.take then { u with rows := u.rows.map unpaired, isOpen := false } else u
        claps := s.pairing.claps.filter fun d => d.take != c.take } })) ∧
  (∀ (i : Nat) (h : HeldTransient) (s : State), s.alive = true → s.mgmt.device = .running →
    s.pairing.held[i]? = some h → h.deadline ≤ s.clock.pt →
    exec (.transientDeadline i) s = .next (raise .transientUnpaired
      ([byteOf h.slot] ++ beBytes 6 h.pt ++ [1])
      { s with pairing := { s.pairing with held := s.pairing.held.eraseIdx i } }))

/-! ### Events -/

/-- R186, R188, R189: a raised event sets its class and, on a clear flag whose level exceeds the threshold with a
manager node set, makes one NOTICE; at a full queue the notice is dropped and EGRESS_DROP raised, which
makes no notice if its flag is set or its level does not exceed the threshold, and whose own notice is else dropped in
its turn. -/
def Obligations.RaisedEventCountsAndNotifies : Prop :=
  ∀ (c : EventClass) (d : List Byte) (s : State),
    let e := s.events[eventIndex c]
    let s1 := recordEvent c d s
    let wanted := s.managerNode ≠ 0 ∧ s.threshold < s.level (eventIndex c)
    let noticeDropped (t : State) : State :=
      t.countAt s.managerPort fun x => { x with noticeDrop := bump x.noticeDrop }
    (s1.events = s.events.set (eventIndex c)
      { flag := true, count := min (e.count + 1) 65535, detail := if e.flag then e.detail else some d }) ∧
    (e.flag = true ∨ ¬ wanted → raise c d s = s1) ∧
    (e.flag = false → wanted → s.hasRoom s.managerPort = true →
      raise c d s = s1.joined s.managerPort (byteOf s.managerNode) 7
        ([byteOf (eventIndex c)] ++ (if c = .takeFull then d.drop 1 else d) ++ beBytes 6 s.clock.pt)) ∧
    (e.flag = false → wanted → s.hasRoom s.managerPort = false →
      (s1.events[eventIndex .egressDrop]).flag = true ∨ s.level 14 ≤ s.threshold →
      raise c d s = recordEvent .egressDrop [portCode s.managerPort, 3] (noticeDropped s1)) ∧
    (e.flag = false → wanted → s.hasRoom s.managerPort = false →
      (s1.events[eventIndex .egressDrop]).flag = false → s.threshold < s.level 14 →
      raise c d s = recordEvent .egressDrop [portCode s.managerPort, 3]
        (noticeDropped (recordEvent .egressDrop [portCode s.managerPort, 3] (noticeDropped s1))))

/-! ### Ports -/

/-- R29, R39: header completion takes the PT, the rest of a cell that a power-up or RESETn discarded is neither counted
nor handled when it arrives, a sending takes the oldest cell of an idle transmitter that is not
held off, its end frees the transmitter, and the physical layer holds it off and releases it. -/
def Obligations.PortCommandsMoveThePort : Prop :=
  ∀ (port : Port) (s : State),
    let x := s.port port
    (s.alive = true → exec (.cellHeaderComplete port) s = .next (s.setPort port { x with
      header := some { pt := s.clock.pt, beforeStarting := false, discarded := false } })) ∧
    (∀ h w, s.alive = true → x.header = some h → h.discarded = true →
      exec (.cellArrival port w) s = .next (s.setPort port { x with header := none })) ∧
    (∀ c rest, s.alive = true → x.queue = c :: rest → x.sending = none → x.heldOff = false →
      exec (.cellSendStart port) s = .next (s.setPort port { x with
        queue := rest, sending := some c })) ∧
    (s.alive = true → x.queue = [] ∨ x.sending ≠ none ∨ x.heldOff = true →
      exec (.cellSendStart port) s = .next s) ∧
    (s.alive = true → exec (.cellSendEnd port) s = .next (s.setPort port { x with
      sending := none })) ∧
    exec (.transmitterHoldOff port) s = .next (s.setPort port { x with heldOff := true }) ∧
    exec (.transmitterHoldOffEnd port) s = .next (s.setPort port { x with heldOff := false })

/-! ### The House Clock -/

/-- R2, R3: at a milliframe boundary with nothing else due, the frame phase stands at the boundary's cycle, and PT
is one later in RUNNING unless a hold withholds it or PT is at its maximum. That the command stands for the
passing of the cycles before the boundary is the model's choice (log entry 4). -/
def Obligations.MilliframeBoundaryAdvances : Prop :=
  ∀ s : State,
    let n := (s.clock.k + 1) * s.clock.period / 1000 - s.clock.phase
    s.alive = true → Quiet s → NothingEndsWithin n s → s.clock.k < 999 →
    exec .milliframeBoundary s = .next { s with clock := { s.clock with
      now := s.clock.now + n, phase := s.clock.phase + n, k := s.clock.k + 1
      pt := if s.mgmt.device = .running ∧ s.clock.hold = 0 then min (s.clock.pt + 1) Config.maxPt
        else s.clock.pt
      hold := if s.mgmt.device = .running then s.clock.hold - 1 else s.clock.hold } }

/-- R2, R3, R18, R58, R59, R62 to R64, R117: at the house frame boundary that ends the frame in progress, with
nothing else due and no run to begin, a frame of the captured rate's period begins; in a run PT advances, the
Scrubber visits its positions, passing over whole entries and finding damage with its damage actions, and then the
silence counters and the tick countdown count. The tick lines follow by `frameLines`. That the command stands for
the passing of the cycles before the boundary is the model's choice (log entry 4); that the Scrubber comes before
the silence counters and these before the countdown is deduced (log entry 19); that a silence counter brought to 0
waits for its own command is the model's choice (log entry 34); and that a countdown brought to 0 stands there with
the tick due, its reload and the lines' toggles left to their own commands, is deduced (log entry 10). -/
def Obligations.FrameBoundaryPacesBlocks : Prop :=
  ∀ s : State,
    let n := s.clock.period - s.clock.phase
    let pt := min (s.clock.pt + 1) Config.maxPt
    s.alive = true → Quiet s → NothingEndsWithin n s → s.clock.k = 999 →
    ¬ (s.mgmt.device = .starting ∧ s.tables.walk = .ended) →
    (ScrubFindsWhole s → exec .frameBoundary s = .next (frameLines (s.frameBegun n pt))) ∧
    (s.mgmt.device = .running → s.tables.scrubPos < 400 →
      ∃ f : Nat → State, f 0 = s.frameOpened n pt ∧ ScrubVisits s.settings.scrubRate f ∧
        exec .frameBoundary s = .next (frameLines (f s.settings.scrubRate).frameCounted))

/-- R177, R3, R18, R22: the run begins at the first house frame boundary after the walk, with PT 0, a tick due and
its countdown loaded unless the interval is 0, the tick lines restarted by `restartLines`. -/
def Obligations.RunBeginsAtFrameBoundary : Prop :=
  ∀ s : State,
    let n := s.clock.period - s.clock.phase
    s.alive = true → Quiet s → NothingEndsWithin n s → s.clock.k = 999 → s.mgmt.device = .starting →
    s.tables.walk = .ended →
    exec .runBegin s = .next (restartLines { s with
      mgmt := { s.mgmt with device := .running }
      clock := { s.clock with
        now := s.clock.now + n, phase := 0, k := 0, hold := 0, pt := 0
        period := (houseRate s.clock.params.rate).period }
      tick := { countdown := s.settings.tickInterval, due := decide (s.settings.tickInterval ≠ 0) }
      tables := { s.tables with walk := .idle } }) ∧
    exec .frameBoundary s = exec .runBegin s

/-- R12, R13, R16: a pulse in FREE is ignored, one too early is only counted as noise, the first accepted one is
only recorded; in SEEKING and HOLDOVER a good interval counts, the lock count's good pulse locks and aligns the
phase, by a hold below milliframe 500 and from there by a step that begins a frame, in a run at the next multiple
of 1000; a bad interval clears the good count and raises REF_RATE if the report is armed. That a good count at or
above a lock count lowered meanwhile locks is the model's choice (log entry 11), and a hold adds to a hold still in
progress (log entry 12). The step is stated with nothing else due, no run to begin and whole entries for the
Scrubber; `frameLines` gives the tick lines. In the frame that a step begins (`State.frameBegun`), that the Scrubber
comes before the silence counters and these before the tick countdown is deduced (log entry 19), that a countdown
brought to 0 stands there with the tick due, and a line's counter at 0 with its toggle due, is deduced (log entry 10),
and that a silence counter brought to 0 waits for its own command is the model's choice (log entry 34). -/
def Obligations.RefinPulseIsJudged : Prop :=
  ∀ s : State, s.alive = true →
    let p := s.clock.params
    let rp := p.divisor * (houseRate p.rate).period
    let m := s.monitor
    let now := s.clock.now
    (s.clock.state = .free → exec .refinPulse s = .next s) ∧
    (s.clock.state ≠ .free → m.last = none →
      exec .refinPulse s = .next { s with monitor := { m with last := some now, missing := true } }) ∧
    (∀ t, s.clock.state ≠ .free → m.last = some t → 2 * (now - t) < rp →
      exec .refinPulse s = .next { s with
        monitor := { m with noise := min (m.noise + 1) Config.maxCounter } }) ∧
    (∀ t, s.clock.state = .seeking ∨ s.clock.state = .holdover → m.last = some t →
      rp ≤ 2 * (now - t) →
      let good := now - t ≤ rp + p.tolerance ∧ rp ≤ now - t + p.tolerance
      let locking : RefMonitor := { m with
        last := some now, missing := true, good := m.good + 1, armed := true, bad := 0 }
      (good → m.good + 1 < p.lockCount →
        exec .refinPulse s = .next { s with monitor := { m with
          last := some now, missing := true, good := m.good + 1, armed := true } }) ∧
      (good → p.lockCount ≤ m.good + 1 → s.clock.k < 500 →
        exec .refinPulse s = .next (raise .refLock ([1] ++ beBytes 2 s.clock.k) { s with
          clock := { s.clock with
            state := .locked, phase := 0, k := 0
            hold := if s.mgmt.device = .running then s.clock.hold + s.clock.k else 0 }
          monitor := locking })) ∧
      (good → p.lockCount ≤ m.good + 1 → 500 ≤ s.clock.k → Quiet s → ScrubFindsWhole s →
        ¬ (s.mgmt.device = .starting ∧ s.tables.walk = .ended) →
        exec .refinPulse s = .next (raise .refLock ([0] ++ beBytes 2 (1000 - s.clock.k)) (frameLines
          (State.frameBegun { s with clock := { s.clock with state := .locked }, monitor := locking } 0
            (min ((s.clock.pt / 1000 + 1) * 1000) Config.maxPt))))) ∧
      (¬ good →
        let s1 : State := { s with monitor := { m with
          last := some now, missing := true, good := 0, armed := false } }
        exec .refinPulse s = .next
          (if m.armed then raise .refRate (beBytes 4 (min (now - t) (2 ^ 32 - 1))) s1 else s1)))

/-- R14, R16: in LOCKED a pulse within the lock window of the nearest frame boundary re-times the frame by a hold
below milliframe 500, and from there by a step that begins a frame, in a run at the next multiple of 1000; one
beyond the window is bad, and the loss count's bad pulse enters HOLDOVER with REF_LOST. The step is stated with
nothing else due, no run to begin and whole entries for the Scrubber; `frameLines` gives the tick lines. That a bad
count at or above a loss count lowered meanwhile loses is the model's choice (log entry 11), a hold adds to a hold
still in progress (log entry 12), and the error is measured in the frame in progress (log entry 29). In the
frame that a step begins (`State.frameBegun`), that the Scrubber comes before the silence counters and these before the
tick countdown is deduced (log entry 19), that a countdown brought to 0 stands there with the tick due, and a line's
counter at 0 with its toggle due, is deduced (log entry 10), and that a silence counter brought to 0 waits for its own
command is the model's choice (log entry 34). -/
def Obligations.LockedPulseRetimesOrLoses : Prop :=
  ∀ (s : State) (t : Nat), s.alive = true → s.clock.state = .locked → s.monitor.last = some t →
    let p := s.clock.params
    let m := s.monitor
    let now := s.clock.now
    let error : Int := if 2 * s.clock.phase ≤ s.clock.period then (s.clock.phase : Int)
      else (s.clock.phase : Int) - s.clock.period
    p.divisor * (houseRate p.rate).period ≤ 2 * (now - t) →
    (|error| ≤ p.window → s.clock.k < 500 →
      exec .refinPulse s = .next { s with
        clock := { s.clock with
          phase := 0, k := 0
          hold := if s.mgmt.device = .running then s.clock.hold + s.clock.k else 0 }
        monitor := { m with last := some now, missing := true, bad := 0 } }) ∧
    (|error| ≤ p.window → 500 ≤ s.clock.k → Quiet s → ScrubFindsWhole s →
      ¬ (s.mgmt.device = .starting ∧ s.tables.walk = .ended) →
      exec .refinPulse s = .next (frameLines (State.frameBegun
        { s with monitor := { m with last := some now, missing := true, bad := 0 } } 0
        (min ((s.clock.pt / 1000 + 1) * 1000) Config.maxPt)))) ∧
    ((p.window : Int) < |error| → m.bad + 1 < p.lossCount →
      exec .refinPulse s = .next { s with monitor := { m with
        last := some now, missing := true, bad := m.bad + 1 } }) ∧
    ((p.window : Int) < |error| → p.lossCount ≤ m.bad + 1 →
      exec .refinPulse s = .next (raise .refLost [1] { s with
        clock := { s.clock with state := .holdover }
        monitor := { m with last := some now, missing := true, good := 0, bad := 0, armed := true } }))

/-- R15: when loss count x R x P cycles have passed since the last accepted pulse, LOCKED becomes HOLDOVER with
REF_LOST, cause missing, and SEEKING and HOLDOVER lose their good count. -/
def Obligations.MissingTimerExpires : Prop :=
  ∀ (s : State) (t : Nat), s.alive = true → s.monitor.missing = true → s.monitor.last = some t →
    let p := s.clock.params
    p.lossCount * (p.divisor * (houseRate p.rate).period) = s.clock.now - t → NothingEndsWithin 0 s →
    (s.clock.state = .locked →
      exec .missingTimerExpiry s = .next (raise .refLost [0] { s with
        clock := { s.clock with state := .holdover }
        monitor := { s.monitor with missing := false, good := 0, bad := 0, armed := true } })) ∧
    (s.clock.state = .seeking ∨ s.clock.state = .holdover →
      exec .missingTimerExpiry s = .next { s with
        monitor := { s.monitor with missing := false, good := 0 } })

/-- R18, R40: a due tick makes one TICK cell for each egress queue, Port S's first, with the boundary's PT, its
label, the clock state and the rate code; one that meets a full queue is dropped, counted as a tick drop, and
raises EGRESS_DROP. That the countdown is reloaded here, at the tick's own command, and the order of the two cells
are deduced (log entry 10); that with no tick due nothing happens is the model's choice (log entry 3). -/
def Obligations.DueTickMakesTwoCells : Prop :=
  ∀ s : State, s.alive = true →
    let pt := s.clock.pt - s.clock.pt % 1000
    let d := beBytes 6 pt ++ labelBytes s.clock.params.dropFrame (labelOfIndex s.clock.params
        ((s.settings.epochIndex + pt / 1000) % labelDay s.clock.params)) ++
      [clockCode s.clock.state, byteOf s.clock.params.rate]
    (s.tick.due = false → exec .tickDue s = .next s) ∧
    (s.tick.due = true → exec .tickDue s = .next (State.tickOffered (State.tickOffered { s with
      tick := { countdown := s.settings.tickInterval, due := false } } .stage d) .post d))

/-- R19 to R22: what a frame boundary, the start of a run and the toggles do to the tick lines: a newly enabled line
starts with its divisor loaded, a started one counts, TICKB of CHAINED counts at TICKA's toggles but at one where
it was loaded, and TICKB of COMPLEMENT stands inverse to TICKA. That a counter brought to 0 waits there for the
toggle's own command, which reloads it, is deduced (log entry 10). -/
def Obligations.TickLinesCountAndToggle : Prop :=
  ∀ s : State, s.alive = true → linesRun s = true →
    let a := s.lines.a
    let b := s.lines.b
    let da := s.inUse 55
    let db := s.inUse 56
    let mode : LineMode := if s.inUse 57 = 1 then .chained else if s.inUse 57 = 2 then .complement
      else .separate
    let started (aHigh : Bool) : LineState := ⟨if mode = .complement then !aHigh else true, db, true⟩
    let inverse (aHigh : Bool) (x : LineState) : LineState :=
      if mode = .complement ∧ x.started then { x with high := !aHigh } else x
    (let a1 := if s.inUse 53 ≠ 1 then a else if a.started then { a with counter := a.counter - 1 }
        else ⟨false, da, true⟩
      let b1 := if s.inUse 54 ≠ 1 then b
        else if b.started then (if mode = .separate then { b with counter := b.counter - 1 } else b)
        else started a1.high
      frameLines s = { s with lines := {
        a := a1, b := inverse a1.high b1, mode := mode
        bLoaded := decide (s.inUse 54 = 1 ∧ b.started = false) } }) ∧
    (let a1 := if s.inUse 53 = 1 then ⟨false, da, true⟩ else a
      let b1 := if s.inUse 54 = 1 then started a1.high else b
      restartLines s = { s with lines := {
        a := a1, b := inverse a1.high b1, mode := mode, bLoaded := decide (s.inUse 54 = 1) } }) ∧
    (a.started = true → a.counter = 0 → b.counter ≠ 0 →
      exec (.tickLineToggle .a) s = .next { s with lines :=
        { a := { a with high := !a.high, counter := da }
          b := if b.started = false then b
            else if mode = .chained ∧ s.lines.bLoaded = false then { b with counter := b.counter - 1 }
            else inverse (!a.high) b
          mode := mode, bLoaded := s.lines.bLoaded } }) ∧
    (b.started = true → b.counter = 0 → s.lines.mode ≠ .complement →
      exec (.tickLineToggle .b) s = .next { s with lines :=
        { s.lines with b := { b with high := !b.high, counter := db } } }) ∧
    (b.started = true → b.counter = 0 → s.lines.mode = .chained →
      exec .tickbChainedToggle s = .next { s with lines :=
        { s.lines with b := { b with high := !b.high, counter := db } } })

/-- R58, R60, R62 to R64, R163: the walk checks one position at a time, in order: it passes over a whole entry, and
of a VALID entry whose check fails it finds the damage, with TABLE_DAMAGE and the damage action (`CheckLeaves`: of
a source entry with its context open, KEEP marks the working copy stale and CLOSE closes the context; of a group
entry, the group's pending claps end in some order). It ends after the last position. That VALIDATION_WALK_END
passes over the positions left to check is the model's choice (log entry 20). -/
def Obligations.WalkChecksPositionsInOrder : Prop :=
  ∀ (s : State) (n t : Nat), s.alive = true → s.tables.walk = .checking n t →
    (n < 400 → ∃ u, CheckLeaves n s u ∧
      exec .validationWalkCheck s = .next { u with
        tables := { u.tables with walk := .checking (n + 1) t } }) ∧
    ((∀ j, n ≤ j → j < 400 → PositionWhole s j) →
      exec .validationWalkEnd s = .next { s with tables := { s.tables with walk := .ended } })

/-! ### Power, RESETn and the boot record -/

/-- R29, R168 to R170: power-up, power loss, RESETn low and its release leave every block at its power-up value, a cell
partly received at a port discarded with the rest that is still to come (log entry 9); the read of the boot record
begins when the part has power and RESETn high; the boot record's content, the lines, the waiting commands and the
physical layer's holding off are kept (log entries 15 and 16). That RESETN_RELEASE with RESETn high changes nothing
is the model's choice (log entry 3). -/
def Obligations.ResetsGivePowerUpValues : Prop :=
  ∀ s : State,
    let discarding (x : PortState) : PortState := {
      heldOff := x.heldOff
      header := x.header.map fun _ => { pt := 0, beforeStarting := false, discarded := true } }
    let held (powered low : Bool) : State := { State.reset with
      powered := powered, resetLow := low, pending := s.pending
      boot := { address := s.boot.address, checkGood := s.boot.checkGood
                reading := powered && !low, writing := none, readGood := false }
      portS := discarding s.portS
      portP := discarding s.portP
      freeDraws := s.freeDraws }
    exec .powerUp s = .next (held true s.resetLow) ∧
    exec .powerLost s = .next (held false s.resetLow) ∧
    exec .resetnAssert s = .next (held s.powered true) ∧
    (s.resetLow = true → exec .resetnRelease s = .next (held s.powered false)) ∧
    (s.resetLow = false → exec .resetnRelease s = .next s)

/-- R168: the end of the boot record read. -/
def Obligations.BootRecordReadSetsAddress : Prop :=
  ∀ s : State, s.alive = true → s.mgmt.device = .boot → s.boot.reading = true →
    let read (good : Bool) (a : Nat) (d : DeviceState) : State := { s with
      boot := { s.boot with reading := false, readGood := good }
      mgmt := { s.mgmt with address := some a, device := d } }
    (s.boot.checkGood = true → 1 ≤ s.boot.address → s.boot.address ≤ 254 →
      exec .bootRecordReadEnd s = .next (read true s.boot.address .configuring)) ∧
    (s.boot.checkGood = true → s.boot.address = 0 →
      exec .bootRecordReadEnd s = .next (read true 0 .addressing)) ∧
    (s.boot.checkGood = false ∨ s.boot.address = 255 →
      exec .bootRecordReadEnd s = .next (raise .bootRecordBad [] (read false 0 .addressing)))

/-- R169, R173: SAVE_ADDRESS spoils the stored check and begins the write; its end stores address and check, makes
the reply and takes the request from the inbox. That the old address stands in the record until then is deduced
(log entry 18). -/
def Obligations.SaveAddressWritesBootRecord : Prop :=
  (∀ (s : State) (r : Request) (a : Nat), Awaits s r → r.kind = 4 → s.mgmt.device = .configuring →
    s.mgmt.address = some a →
    exec .saveAddress s = .next (State.answer { s with
      boot := { s.boot with checkGood := false, writing := some a } } r .ok [[byteOf a]])) ∧
  (∀ (s : State) (r : Request) (rest : List Request) (a : Nat) (cells : List (List Byte)), s.alive = true →
    s.boot.writing = some a → s.mgmt.inbox = r :: rest → s.mgmt.handling = some cells →
    exec .bootRecordWriteEnd s = .next { s.replyMade r cells with
      boot := { s.boot with address := a, checkGood := true, writing := none }
      mgmt := { s.mgmt with inbox := rest, handling := none } })

/-- R40, R131, R138, R173 to R175: at the end of a handling, and of a service, the cells of the reply fixed at its
beginning are offered to the queue of the request's port, one after the other, each that finds it full dropped,
counted as a reply drop and raising EGRESS_DROP; the request leaves its queue and the unit is free. A broadcast's
reply has no cells. -/
def Obligations.HandlingAndServiceEndsReply : Prop :=
  ∀ (s : State) (r : Request) (rest : List Request) (cells : List (List Byte)), s.alive = true →
    (s.mgmt.inbox = r :: rest → s.mgmt.handling = some cells → s.boot.writing = none →
      exec .mgmtHandlingEnd s = .next { s.replyMade r cells with
        mgmt := { s.mgmt with inbox := rest, handling := none } }) ∧
    (s.locate.queue = r :: rest → s.locate.service = some cells →
      exec .locateServiceEnd s = .next { s.replyMade r cells with
        locate := { queue := rest, service := none } })

/-! ### Management requests -/

/-- R45, R172: a request in a state that does not serve its kind is refused BUSY in STARTING and STATE elsewhere, a
short one RANGE in any state, one whose slot, group, key, table, position or set of classes is out of range RANGE
where its kind is served, and a kind that names no request RANGE; nothing but the reply to come changes. Such a
refusal carries no data, but that of a MAP carries its key as written (R48), deduced to hold of these refusals too
(log entry 14). -/
def Obligations.RefusedRequestChangesNothing : Prop :=
  ∀ (s : State) (r : Request), s.alive = true → s.mgmt.handling = none →
    s.mgmt.inbox.head? = some r → r.broadcast = false →
    let data := if r.kind = 9 ∧ 2 ≤ r.args.length then r.args.take 2 else []
    (∀ (c : Instr) (k : Nat), mgmtKind c = some k → r.kind = k →
      (r.args.length < argNeed k → exec c s = .next (s.answer r .range [data])) ∧
      (argNeed k ≤ r.args.length → servedIn k s.mgmt.device = false →
        exec c s = .next (s.answer r (if s.mgmt.device = .starting then .busy else .state) [data])) ∧
      (argNeed k ≤ r.args.length → servedIn k s.mgmt.device = true → r.BadIndex →
        exec c s = .next (s.answer r .range [data]))) ∧
    (r.kind = 0 ∨ 31 ≤ r.kind → exec .unknownRequest s = .next (s.answer r .range [[]]))

/-- R171, R180, R139: SET_ADDRESS of 1 to 254 gives the address and CONFIGURING, of 0 or 255 is refused RANGE;
FORGET gives address 0 and ADDRESSING, and ends every request in the locate queue STOPPED. Stated for FORGET with no
toggle due. That the address becomes 0 before the STOPPED replies are made, which so have origin 0, is deduced (log
entry 13), and so is that SET_ADDRESS's OK reply carries the new address in CONFIGURING too (log entry 32). -/
def Obligations.AddressRequestsSetTheNode : Prop :=
  ∀ (s : State) (r : Request), Awaits s r →
    (r.kind = 1 → s.mgmt.device = .addressing ∨ s.mgmt.device = .configuring →
      let a := r.arg 0 1
      (1 ≤ a → a ≤ 254 → exec .setAddress s = .next (State.answer { s with
        mgmt := { s.mgmt with address := some a, device := .configuring } } r .ok [[byteOf a]])) ∧
      (a = 0 ∨ a = 255 → exec .setAddress s = .next (s.answer r .range [[]]))) ∧
    (r.kind = 3 → s.mgmt.device = .configuring → s.lines.a.due = false → s.lines.b.due = false →
      exec .forget s = .next (State.answer (State.stopped { s with
        mgmt := { s.mgmt with address := some 0, device := .addressing } }) r .ok [[]]))

/-- R27, R50, R54, R57, R102, R181, R182, R192: the reading requests answer from the state as it stands, field by field
in the order given, and change nothing but the answer fixed. Codes that the manual does not give are free values (log
entries 5 and 6); auto-open yes is written as 1, the model's choice (log entry 36); the division of READ_STATUS and
READ_EVENTS into cells and the presence bytes (log entry 14), and that READ_CONTEXT's anchor is one field behind one
presence byte (log entry 37), are deduced, and so are the zeros for the working copy of a context that has none and its
effective latency (log entry 23); what READ_STATUS shows of the contexts' states (R116) and of the captured clock
values (R182), after the values that R181 lists, is a free value of at most 25 bytes (log entry 31). -/
def Obligations.ReadingRequestsChangeNothing : Prop :=
  ∀ (s : State) (r : Request), Awaits s r →
    let flag (b : Bool) : Byte := if b then 1 else 0
    let source (e : SourceEntry) : List Byte :=
      let cls : Byte := match e.cls with | .camera => 0 | .recorder => 1 | .slate => 2 | .plain => 3
      (e.tag ++ List.replicate 8 0).take 8 ++ [cls] ++ beBytes 4 e.rn ++
      beBytes 2 e.rd ++ beBytes 3 e.stride ++ beBytes 3 e.latency ++ beBytes 2 e.silenceLimit ++
      beBytes 1 e.gapLimit ++ beBytes 2 e.window ++ beBytes 2 e.gain ++ beBytes 2 e.lockTol ++
      beBytes 3 e.slipTol ++ beBytes 3 e.trimLimit ++ signedBytes 3 e.initialTrim ++
      beBytes 2 e.adjustLimit ++ beBytes 1 e.group ++ [flag e.autoOpen]
    (r.kind = 2 → s.mgmt.device = .addressing ∨ s.mgmt.device = .configuring ∨ s.mgmt.device = .running →
      exec .identify s = .next (s.answer r .ok [[Config.family, 2, 28, Config.revision,
        deviceByte s, s.ownByte, byteOf s.boot.address,
        Config.unstatedCode .bootStatus (if s.boot.readGood then 1 else 0)]])) ∧
    (s.mgmt.device = .configuring ∨ s.mgmt.device = .running →
    (let values (a n : Nat) : List Byte := ((List.range n).map fun j => beBytes 4 (s.param (a + j))).flatten
     r.kind = 18 → exec .readParams s = .next (s.answer r .ok [[0, 5] ++ values 0 12, 1 :: values 12 13,
      2 :: values 25 13, 3 :: values 38 13, 4 :: values 51 7])) ∧
    (let p := s.clock.params
     let l := labelOfIndex p ((s.settings.epochIndex + s.clock.pt / 1000) % labelDay p)
     let counters (c : Counters) : List Byte := ([c.arrived, c.damaged, c.consumed, c.broadcastTaken,
       c.shortMarks, c.alreadyStamped, c.forwardedOut, c.overrun, c.replyDrop, c.tickDrop,
       c.noticeDrop].map (beBytes 4)).flatten
     let clockByte : Byte := match s.clock.state with | .free => 0 | .seeking => 1 | .locked => 2 | .holdover => 3
     r.kind = 23 → ∃ listed : Nat,
      (∀ c : Nat, listed.testBit c = if h : c < 58 then s.defaulted[c] else false) ∧
      (shownUnlisted s).length ≤ 25 ∧
      exec .readStatus s = .next (s.answer r .ok
        [[0, 4, deviceByte s, s.ownByte] ++ beBytes 6 s.clock.pt ++
          [byteOf l.hh, byteOf l.mm, byteOf l.ss, byteOf ((if p.dropFrame then 128 else 0) + l.ff), clockByte] ++
          beBytes 4 s.monitor.noise ++ [byteOf s.portS.queue.length, byteOf s.portP.queue.length,
            byteOf s.mgmt.inbox.length, byteOf s.locate.queue.length] ++ beBytes 2 s.log.entries.length ++
          [byteOf s.pairing.takes.length, byteOf s.pairing.claps.length, byteOf s.pairing.held.length] ++
          shownUnlisted s,
        1 :: counters s.portS.counters, 2 :: counters s.portP.counters, 3 :: beBytes 8 listed])) ∧
    (let record (i : Fin 18) : List Byte :=
       let e := s.events[i]
       let d := e.detail.getD []
       [byteOf i, byteOf ((if e.flag then 128 else 0) + (if s.alarm i then 64 else 0) + s.level i * 16 +
         d.length)] ++ beBytes 2 e.count ++ (d ++ List.replicate 9 0).take 9
     let records := ((List.finRange 18).filter fun i : Fin 18 => (r.arg 0 3).testBit i).map record
     let n := (records.length + 3) / 4
     r.kind = 24 → r.arg 0 3 < 2 ^ 18 → ∃ flags : Nat,
      (∀ c : Nat, flags.testBit c = if h : c < 18 then s.events[c].flag else false) ∧
      exec .readEvents s = .next (s.answer r .ok
        (([0, byteOf (n + 1), Config.unstatedCode .faultLevel (if s.faultn then 1 else 0)] ++ beBytes 3 flags) ::
          (List.range n).map fun j => byteOf (j + 1) :: ((records.drop (4 * j)).take 4).flatten))) ∧
    (∀ i : Fin 128, r.arg 0 1 = i →
      (let c := s.ctx i
       let copy := match c.work with | some w => 1 :: source w | none => List.replicate 44 0
       let anchor := match c.anchor with
         | some a => 1 :: (beBytes 5 a.c0 ++ beBytes 6 a.pt0 ++ beBytes 4 a.seq)
         | none => List.replicate 16 0
       let latency : Nat := match c.work with | some w => w.latency | none => 0
       r.kind = 22 → exec .readContext s = .next (s.answer r .ok
        [[0, 3, Config.unstatedCode .contextState (contextNumber c.state)] ++ copy ++ beBytes 4 c.gen,
          1 :: (anchor ++ signedBytes 3 c.trim ++ signedBytes 2 c.adjust ++ signedBytes 3 (latency + c.adjust) ++
            beBytes 5 c.lastCount ++ beBytes 6 c.lastArrival ++ beBytes 6 c.lastConverted ++
            beBytes 1 c.windowCount ++ signedBytes 4 c.windowSum ++ beBytes 2 c.silence ++ beBytes 4 c.marks),
          2 :: (beBytes 4 c.missed ++ beBytes 4 c.duplicates ++ beBytes 4 c.slips ++ beBytes 4 c.jumps ++
            [Config.unstatedCode .staleFlag (if c.stale then 1 else 0),
              Config.unstatedCode .trimmedFlag (if c.trimmed then 1 else 0)])])) ∧
      (∀ e, r.kind = 13 → s.sourceAt i = some e → exec .readSource s = .next (s.answer r .ok
        [[0, 1] ++ source e.content ++ [entryStatusByte e.damaged]])) ∧
      (r.kind = 13 → s.sourceAt i = none → exec .readSource s = .next (s.answer r .noEntry [[]]))) ∧
    (∀ k : Key, r.kind = 11 → r.key 0 = some k →
      (∀ (i : Fin 256) (e : Stored MapEntry), s.keyPosition k = some i → s.mapAt i = some e →
        exec .readMap s = .next (s.answer r .ok
          [[byteOf e.content.slot, byteOf i, entryStatusByte e.damaged]])) ∧
      (s.keyPosition k = none → exec .readMap s = .next (s.answer r .noEntry [[]]))) ∧
    (∀ i : Fin 16, r.kind = 15 → r.arg 0 1 = i + 1 →
      (s.tables.group[i] = none → exec .readGroup s = .next (s.answer r .noEntry [[]])) ∧
      ∀ e, s.tables.group[i] = some e →
      exec .readGroup s = .next (s.answer r .ok [beBytes 3 e.content.pairingWindow ++
        beBytes 2 e.content.rollingLimit ++ beBytes 2 e.content.stepThreshold ++
        [(match e.content.policy with | .step => 0 | .report => 1 : Byte)] ++ beBytes 1 e.content.labelTol ++
        [entryStatusByte e.damaged]])))

/-- R48, R49: MAP and UNMAP in CONFIGURING and RUNNING: the tests in their order, the entry written at the key's own
position or the lowest free way, and removed; in RUNNING an open context of a slot concerned, the requested one and
that of the key's entry, refuses LIVE. A refused MAP carries its key. -/
def Obligations.MapAndUnmapRewriteTheMap : Prop :=
  ∀ (s : State) (r : Request) (k : Key), Awaits s r → r.key 0 = some k →
    s.mgmt.device = .configuring ∨ s.mgmt.device = .running →
    let live (x : Fin 128) : Prop := s.mgmt.device = .running ∧ (s.ctx x).state ≠ .closed
    (∀ slot : Fin 128, r.kind = 9 → r.arg 2 1 = slot →
      let written (i : Fin 256) : State :=
        if s.slotTaken k slot then s.answer r .slotTaken [keyBytes k]
        else State.answer (s.setMap i (some ⟨⟨k, slot⟩, true, false⟩)) r .ok
          [keyBytes k ++ [byteOf slot, byteOf i]]
      (∀ i e, s.keyPosition k = some i → s.mapAt i = some e →
        (live e.content.slot ∨ live slot → exec .mapKey s = .next (s.answer r .live [keyBytes k])) ∧
        (¬ live e.content.slot → ¬ live slot → exec .mapKey s = .next (written i))) ∧
      (s.keyPosition k = none →
        (live slot → exec .mapKey s = .next (s.answer r .live [keyBytes k])) ∧
        (¬ live slot → s.freePosition k = none → exec .mapKey s = .next (s.answer r .setFull [keyBytes k])) ∧
        (∀ i, ¬ live slot → s.freePosition k = some i → exec .mapKey s = .next (written i)))) ∧
    (r.kind = 10 →
      (s.keyPosition k = none → exec .unmapKey s = .next (s.answer r .noEntry [[]])) ∧
      (∀ i e, s.keyPosition k = some i → s.mapAt i = some e →
        (¬ live e.content.slot → exec .unmapKey s = .next (State.answer (s.setMap i none) r .ok
          [keyBytes k ++ [byteOf e.content.slot]])) ∧
        (live e.content.slot → exec .unmapKey s = .next (s.answer r .live [[]]))))

/-- R45, R51 to R53, R55, R56, R61: an accepted write stores the entry VALID with a fresh check, each tuning field
as written or clamped into its range, and answers OK, or CLAMPED with the changed fields, and a structural field
out of range refuses it RANGE; in RUNNING an entry in live use refuses it LIVE. INJECT alters the stored check of
one VALID entry of any table, changes nothing of a DAMAGED one, and is refused NO_ENTRY for an EMPTY one. The width
of the list of changed fields is deduced (log entry 14). -/
def Obligations.TableWritesStoreClamped : Prop :=
  ∀ (s : State) (r : Request), Awaits s r → s.mgmt.device = .configuring ∨ s.mgmt.device = .running →
    (∀ i : Fin 128, r.kind = 12 → r.arg 0 1 = i →
      (s.mgmt.device = .running → (s.ctx i).state ≠ .closed →
        exec .writeSource s = .next (s.answer r .live [[]])) ∧
      (s.mgmt.device = .configuring ∨ (s.ctx i).state = .closed →
        let w := r.source
        let lock := max 1 (min w.lockTol 1000)
        let limit := min w.trimLimit 500000
        let e : SourceEntry := { w with
          tag := w.tag.map fun b => if 32 ≤ b.toNat ∧ b.toNat ≤ 126 then b else 32
          latency := min w.latency 100000, silenceLimit := max 1 (min w.silenceLimit 1000)
          gapLimit := max 1 (min w.gapLimit 64), window := max 2 (min w.window 256)
          gain := min w.gain 10000, lockTol := lock, slipTol := max (lock + 1) (min w.slipTol 100000)
          trimLimit := limit, initialTrim := max (-(limit : Int)) (min w.initialTrim limit)
          adjustLimit := min w.adjustLimit 10000 }
        let s1 := s.setSource i (some ⟨e, true, false⟩)
        (structuralGood r = true →
          exec .writeSource s = .next (if changedFields w e = [] then s1.answer r .ok [[]]
            else s1.answer r .clamped [maskBytes 3 (changedFields w e)]) ∧ e.InRange ∧
            (w.InRange → e = w)) ∧
        (structuralGood r = false → exec .writeSource s = .next (s.answer r .range [[]])))) ∧
    (∀ i : Fin 16, r.kind = 14 → r.arg 0 1 = i + 1 →
      s.mgmt.device = .configuring ∨ (∀ c ∈ s.pairing.claps, c.group ≠ i + 1) →
      let w := r.group
      let e : GroupEntry := { w with
        pairingWindow := max 1 (min w.pairingWindow 240000), rollingLimit := max 1 (min w.rollingLimit 1000)
        stepThreshold := min w.stepThreshold 1000, labelTol := min w.labelTol 100 }
      let s1 := s.setGroup i (some ⟨e, true, false⟩)
      (r.arg 8 1 ≤ 1 →
        exec .writeGroup s = .next (if changedGroup w e = [] then s1.answer r .ok [[]]
          else s1.answer r .clamped [maskBytes 1 (changedGroup w e)]) ∧ e.InRange ∧ (w.InRange → e = w)) ∧
      (2 ≤ r.arg 8 1 → exec .writeGroup s = .next (s.answer r .range [[]]))) ∧
    (∀ i : Fin 16, r.kind = 14 → r.arg 0 1 = i + 1 → s.mgmt.device = .running →
      (∃ c ∈ s.pairing.claps, c.group = i + 1) → exec .writeGroup s = .next (s.answer r .live [[]])) ∧
    (∀ i : Fin 256, r.kind = 16 → r.arg 0 1 = 0 → r.arg 1 1 = i →
      (s.mapAt i = none → exec .inject s = .next (s.answer r .noEntry [[]])) ∧
      (∀ e, s.mapAt i = some e → exec .inject s = .next (State.answer (if e.damaged then s
        else s.setMap i (some { e with checkGood := false })) r .ok [[]]))) ∧
    (∀ i : Fin 128, r.kind = 16 → r.arg 0 1 = 1 → r.arg 1 1 = i →
      (s.sourceAt i = none → exec .inject s = .next (s.answer r .noEntry [[]])) ∧
      (∀ e, s.sourceAt i = some e → exec .inject s = .next (State.answer (if e.damaged then s
        else s.setSource i (some { e with checkGood := false })) r .ok [[]]))) ∧
    (∀ i : Fin 16, r.kind = 16 → r.arg 0 1 = 2 → r.arg 1 1 = i + 1 →
      (s.tables.group[i] = none → exec .inject s = .next (s.answer r .noEntry [[]])) ∧
      (∀ e, s.tables.group[i] = some e → exec .inject s = .next (State.answer (if e.damaged then s
        else s.setGroup i (some { e with checkGood := false })) r .ok [[]])))

/-- R11, R21, R27, R174, R182 to R184, R190, R191, R193: WRITE_PARAMS, of one pair or several with up to four bytes
after the last, stores each named field as last written; a live field named is also taken into use, an invalid value
as its default with SETUP_DEFAULTED, once for each such field in the order of Table 9-4, under the fields as the
write left them, and FAULTn follows; a line whose enable is off after one of the pairs goes to its disabled level (that
the enables take effect pair by pair, and these orders, are deduced, log entry 21; that a toggle still due is lost with
its line is the model's choice, log entry 35). A code that names no field refuses the whole request RANGE. CLOCK_APPLY,
addressed or broadcast, captures the clock class, each invalid field replaced by its default with SETUP_DEFAULTED in
order, with the effect of R11. CLEAR_EVENTS clears the classes of its set and answers the counts. The width of
CLOCK_APPLY's list of defaulted fields (log entry 14), and that an accepted broadcast takes up a handling (log entry
22), are deduced. -/
def Obligations.ParamsClockAndEventRequests : Prop :=
  (∀ (s : State) (r : Request) (pairs : List (Byte × BitVec 32)) (extra : List Byte), Awaits s r → r.kind = 17 →
    s.mgmt.device = .configuring ∨ s.mgmt.device = .running → pairs ≠ [] → extra.length ≤ 4 →
    r.args = (pairs.map fun x => x.1 :: beBytes 4 x.2.toNat).flatten ++ extra →
    ((∃ x ∈ pairs, 58 ≤ x.1.toNat) → exec .writeParams s = .next (s.answer r .range [[]])) ∧
    ((∀ x ∈ pairs, x.1.toNat < 58) →
      let wrote (n : Nat) : State := { s with paramRecord := Vector.ofFn fun c : Fin 58 =>
        match ((pairs.take n).filter fun x => x.1.toNat == (c : Nat)).getLast? with
        | some x => x.2
        | none => s.paramRecord[c] }
      let t := wrote pairs.length
      let live (c : Nat) : Bool := decide (14 ≤ c) && pairs.any fun x => x.1.toNat == c
      let bad := (List.range 58).filter fun c => live c && !liveValid c (t.param c)
      let a := if ∀ n < pairs.length, (wrote (n + 1)).inUse 53 = 1 then s.lines.a
        else { s.lines.a with high := true, started := false }
      let b := if ∀ n < pairs.length, (wrote (n + 1)).inUse 54 = 1 then s.lines.b
        else { s.lines.b with high := false, started := false }
      let u : State := { t with
        lines := { s.lines with
          a := a
          b := if s.lines.mode = .complement ∧ b.started then { b with high := !a.high } else b }
        defaulted := Vector.ofFn fun c : Fin 58 =>
          if live c then !liveValid c (t.param c) else s.defaulted[c]
        faultn := t.alarmRaised }
      exec .writeParams s = .next (State.answer (u.setupDefaulted bad) r .ok [[]]) ∧
      ∀ c : Fin 58, 14 ≤ (c : Nat) →
        t.inUse c = if liveValid c (t.param c) then t.param c else State.reset.param c)) ∧
  (∀ (s : State) (r : Request), StandsNext s r → r.kind = 5 → s.mgmt.device = .configuring →
    let p := s.clockCaptured
    let bad := s.clockDefaulted
    let o := s.clock.params
    let restarts := p.externalRef = false ∨ o.externalRef = false ∨ p.rate ≠ o.rate ∨
      p.divisor ≠ o.divisor
    exec .clockApply s = .next (State.accepted (State.setupDefaulted { s with
      clock := { s.clock with
        params := p
        state := if p.externalRef = false then .free else if restarts then .seeking
          else s.clock.state }
      monitor := if restarts then { last := none, good := 0, bad := 0, missing := false, armed := true
                                    noise := s.monitor.noise } else s.monitor
      defaulted := s.listedAfter 8 bad } bad) r [maskBytes 1 bad])) ∧
  (∀ (s : State) (r : Request), Awaits s r → r.kind = 25 →
    s.mgmt.device = .configuring ∨ s.mgmt.device = .running → r.arg 0 3 < 2 ^ 18 →
    ∃ t : State,
      exec .clearEvents s = .next (t.answer r .ok [((List.finRange 18).map fun i : Fin 18 =>
        beBytes 2 (if (r.arg 0 3).testBit i then s.events[i].count else 0)).flatten]) ∧
      (∀ i : Fin 18, t.events[i] = if (r.arg 0 3).testBit i then ⟨false, 0, none⟩ else s.events[i]) ∧
      t.faultn = t.alarmRaised ∧ t = { s with events := t.events, faultn := t.faultn })

/-- R103 to R106, R162: OPEN of a CLOSED context with a VALID entry opens it; CLOSE of an open one closes it, the
claps left without a PENDING row ending in some order (a free value: log entries 7 and 24), and answers the
generation that ended; REOPEN does both; a wrong context state is refused STATE and a missing or DAMAGED entry
NO_ENTRY. -/
def Obligations.SourceRequestsOpenAndClose : Prop :=
  ∀ (s : State) (r : Request) (i : Fin 128), Awaits s r → s.mgmt.device = .running → r.arg 0 1 = i →
    let c := s.ctx i
    let waiting := s.takesWaitingFor i c.gen
    let gen := beBytes 4 ((c.gen + 1) % 2 ^ 32)
    (r.kind = 19 →
      (c.state ≠ .closed → exec .openSource s = .next (s.answer r .state [[]])) ∧
      (∀ w, c.state = .closed → s.sourceAt i = some w →
        exec .openSource s = .next (if w.damaged then s.answer r .noEntry [[]]
          else State.answer (s.setCtx i (c.openedWith w.content)) r .ok [gen])) ∧
      (c.state = .closed → s.sourceAt i = none →
        exec .openSource s = .next (s.answer r .noEntry [[]]))) ∧
    (r.kind = 20 →
      (c.state = .closed → exec .closeSource s = .next (s.answer r .state [[]])) ∧
      (c.state ≠ .closed → ∃ order : List Nat, order.Perm waiting ∧
        exec .closeSource s = .next (State.answer (s.contextClosed i order) r .ok [beBytes 4 c.gen]))) ∧
    (r.kind = 21 →
      (s.sourceAt i = none ∨ (∃ w, s.sourceAt i = some w ∧ w.damaged = true) →
        exec .reopenSource s = .next (s.answer r .noEntry [[]])) ∧
      (∀ w, c.state = .closed → s.sourceAt i = some w → w.damaged = false →
        exec .reopenSource s = .next (State.answer (s.setCtx i (c.openedWith w.content)) r .ok [gen])) ∧
      (∀ w, c.state ≠ .closed → s.sourceAt i = some w → w.damaged = false →
        ∃ order : List Nat, order.Perm waiting ∧
        let s1 := s.contextClosed i order
        exec .reopenSource s = .next (State.answer
          (s1.setCtx i ((s1.ctx i).openedWith w.content)) r .ok [gen])))

/-! ### Runs -/

/-- R139, R174, R176, R183: RUN, addressed or broadcast, enters STARTING: every request in the locate queue ends
STOPPED, the Log, the takes and the lists are emptied, both classes captured, each invalid field replaced by its
default with SETUP_DEFAULTED in order, PT and the scrub position 0, and the validation walk begins. That the
STOPPED replies and their drop notices come before PT 0 and the captures, and the SETUP_DEFAULTED notices last, is
deduced (log entry 13); that an accepted broadcast takes up a handling (log entry 22), and the width of the list of
defaulted fields (log entry 14), are deduced too. -/
def Obligations.RunEntersStarting : Prop :=
  ∀ (s : State) (r : Request), StandsNext s r → r.kind = 6 → s.mgmt.device = .configuring →
    let s1 := s.stopped
    let p := s.clockCaptured
    let bad := s.clockDefaulted ++ s.runDefaulted
    let o := s.clock.params
    let restarts := p.externalRef = false ∨ o.externalRef = false ∨ p.rate ≠ o.rate ∨
      p.divisor ≠ o.divisor
    exec .run s = .next (State.accepted (State.setupDefaulted { s1 with
      mgmt := { s1.mgmt with device := .starting }
      log := { entries := [], nextSeq := 0 }
      pairing := { takes := [], claps := [], held := [], nextTake := 1
                   policy := if s.param 11 = 1 then .keepFirst else .shift }
      contexts := s1.contexts.map fun c => { c with trimmed := false, stale := false }
      tables := { s1.tables with scrubPos := 0, walk := .checking 0 s.clock.now }
      clock := { s1.clock with
        pt := 0, hold := 0, params := p
        state := if p.externalRef = false then .free else if restarts then .seeking
          else s.clock.state }
      monitor := if restarts then { last := none, good := 0, bad := 0, missing := false, armed := true
                                    noise := s.monitor.noise } else s.monitor
      settings := { epochIndex := if s.runDefaulted.contains 8 then 0
                      else indexOfLabel p (readLabel (beBytes 4 (s.param 8)))
                    tickInterval := orDefault 0 255 24 (s.param 9), scrubRate := orDefault 0 16 4 (s.param 10)
                    sourceAction := if s.param 12 = 1 then .close else .keep
                    mapAction := if s.param 13 = 1 then .use else .ignore }
      tick := { s1.tick with due := false }
      portS := { s1.portS with header := s1.portS.header.map fun h => { h with beforeStarting := true } }
      portP := { s1.portP with header := s1.portP.header.map fun h => { h with beforeStarting := true } }
      defaulted := s.listedAfter 14 bad } bad) r [maskBytes 2 bad])

/-- R4, R105, R107, R126, R159, R162, R164, R174, R177, R178: HALT, addressed or broadcast, in STARTING stops the walk
and enters CONFIGURING with PT 0; in RUNNING, a tick still due made first (deduced, log entry 10), it closes every open
context, one at a time in some order: the segment's end is filled, the rows that wait for the opening are made
UNPAIRED, each take left without a PENDING row is CLOSED with CLAP_UNPAIRED and the slot's held transients go; then
the claps that remain end, and CONFIGURING is entered with PT frozen. The orders are free values (log entry 7). It
leaves every context CLOSED and the pairing lists empty, and keeps the tables, the takes' numbers, the Log's length,
the locate queue and the parameters. That a silence expiry, a clap or a held transient due at the instant of the HALT
is not taken first is the model's choice (log entry 34). A broadcast RUN, HALT or CLOCK_APPLY that the device state
does not accept is discarded at its taking: it leaves the inbox, and nothing else changes; that it takes up no handling
is deduced (log entry 22). -/
def Obligations.HaltEndsTheRun : Prop :=
  (∀ (s : State) (r : Request), StandsNext s r → r.kind = 7 →
    (s.mgmt.device = .starting →
      exec .halt s = .next (State.accepted { s with
        mgmt := { s.mgmt with device := .configuring }
        clock := { s.clock with pt := 0, hold := 0 }
        tables := { s.tables with walk := .idle } } r [[]])) ∧
    (∀ s0, s.mgmt.device = .running → exec .tickDue s = .next s0 →
      ∃ (slots : List (Fin 128)) (orders : Fin 128 → List Nat) (rest : List Nat),
        let closed (l : List (Fin 128)) : State :=
          l.foldl (fun u i => u.contextClosed i (orders i)) { s0 with freeDraws := s0.freeDraws + 1 }
        let v := closed slots
        let u := rest.foldl State.clapEnded { v with freeDraws := v.freeDraws + 1 }
        slots.Perm ((List.finRange 128).filter fun i => decide ((s.ctx i).state ≠ .closed)) ∧
        (∀ before i after, slots = before ++ i :: after →
          (orders i).Perm ((closed before).takesWaitingFor i (s.ctx i).gen)) ∧
        rest.Perm (v.pairing.claps.map PendingClap.take) ∧
        exec .halt s = .next (State.accepted { u with
          mgmt := { s.mgmt with device := .configuring }, clock := { s.clock with hold := 0 }
          pairing := { u.pairing with held := [] } } r [[]])) ∧
    (s.mgmt.device = .running →
      ∃ t : State, exec .halt s = .next (t.accepted r [[]]) ∧
        t.mgmt = { s.mgmt with device := .configuring } ∧ t.clock = { s.clock with hold := 0 } ∧
        (∀ i : Fin 128, t.ctx i = { s.ctx i with state := .closed }) ∧
        t.pairing.claps = [] ∧ t.pairing.held = [] ∧ t.pairing.nextTake = s.pairing.nextTake ∧
        t.pairing.policy = s.pairing.policy ∧
        t.pairing.takes.map Take.number = s.pairing.takes.map Take.number ∧
        t.log.nextSeq = s.log.nextSeq ∧ t.log.entries.length = s.log.entries.length ∧
        t.tables = s.tables ∧ t.locate = s.locate ∧ t.settings = s.settings ∧
        t.monitor = s.monitor ∧ t.lines = s.lines ∧ t.paramRecord = s.paramRecord ∧
        t.defaulted = s.defaulted ∧ t.boot = s.boot)) ∧
  (∀ (s : State) (r : Request) (c : Instr) (k : Nat), StandsNext s r → r.broadcast = true →
    (c, k) ∈ [(Instr.clockApply, 5), (.run, 6), (.halt, 7)] → r.kind = k →
    servedIn k s.mgmt.device = false →
    exec c s = .next { s with mgmt := { s.mgmt with inbox := s.mgmt.inbox.tail } })

/-- R179, R139: CLEAR, with no tick due, ends every request in the locate queue STOPPED, gives every piece of state
its value for CLEAR and keeps the address, the boot record, the inbox, the egress queues, the sequence counters and
the frame phase. That the STOPPED replies come before the clearing, their drops counted and then cleared, is
deduced (log entry 13), and so is that it also keeps the holding off of the transmitters, the supply and RESETn
lines and the waiting commands (log entry 16). -/
def Obligations.ClearKeepsOnlyTheLink : Prop :=
  ∀ (s : State) (r : Request), Awaits s r → r.kind = 8 →
    s.mgmt.device = .configuring ∨ s.mgmt.device = .starting ∨ s.mgmt.device = .running →
    s.tick.due = false →
    exec .clear s = .next (State.answer { State.reset with
      powered := s.powered, resetLow := s.resetLow, pending := s.pending, boot := s.boot
      mgmt := { s.mgmt with device := .configuring }
      clock := { now := s.clock.now, phase := s.clock.phase, k := s.clock.k, period := s.clock.period
                 pt := 0, hold := 0, params := {}, state := .free }
      portS := { s.stopped.portS with counters := {} }
      portP := { s.stopped.portP with counters := {} }
      freeDraws := s.freeDraws } r .ok [[]])

/-! ### The Locate Unit -/

/-- R27, R129, R132 to R138, R142: a locate or take request begins its service by fixing its whole answer from the
state as it stands, and changes nothing else; one too short for its arguments is answered RANGE. A locate is decided by
the newest entry of the slot whose segment, from its anchor to its end, covers the picture time or the count; a take
answer carries the take and then its rows, three to a cell. The codes of anchor reason, open segment and take status
that the answers carry are free values (log entry 5). -/
def Obligations.LocateRequestsFixTheirAnswers : Prop :=
  (∀ (s : State) (r : Request) (c : Instr) (k : Nat), s.alive = true → s.locate.service = none →
    s.locate.queue.head? = some r →
    (c, k) ∈ [(Instr.locateTime, 26), (.locateCount, 27), (.takeQuery, 28), (.takeFind, 29), (.takeAt, 30)] →
    r.kind = k → r.args.length < argNeed k → exec c s = .next (s.serve r .range [[]])) ∧
  ∀ (s : State) (r : Request), AwaitsLocate s r →
    let p := s.clock.params
    let held : Bool := s.clock.pt == Config.maxPt
    let conversion (e : LogEntry) : Conversion :=
      { rate := p.rate, rn := e.rn, rd := e.rd, trim := e.trim, c0 := e.c0, pt0 := e.pt0 }
    let named (e : LogEntry) : List Byte :=
      beBytes 4 e.seq ++ [Config.unstatedCode .anchorReason (reasonNumber e.reason)] ++ beBytes 4 e.gen
    let data (e : LogEntry) : List Byte := named e ++ signedBytes 2 e.adjust ++
      [Config.unstatedCode .segmentOpen (if e.ending = none then 1 else 0)]
    (∀ (k : Key) (slot : Fin 128), r.key 0 = some k → s.lookup k = some slot →
      (r.kind = 26 →
        let h := r.arg 2 6
        (s.clock.pt < h → exec .locateTime s = .next (s.serve r .future [[]])) ∧
        (h ≤ s.clock.pt → (∀ e ∈ s.log.entries, e.slot = slot → ¬ e.CoversPt s h) →
          let early := match s.log.entries.filter (fun e => e.slot == slot) with
            | [] => true
            | e :: _ => decide (h < e.pt0)
          exec .locateTime s = .next (s.serve r
            (if (s.ctx slot).trimmed && early then .expired else .notCovered) [[]])) ∧
        (∀ before e after, h ≤ s.clock.pt → s.log.entries = before ++ e :: after → e.slot = slot →
          e.CoversPt s h → (∀ x ∈ after, x.slot = slot → ¬ x.CoversPt s h) →
          (reverse (conversion e) held h = none →
            exec .locateTime s = .next (s.serve r .range [named e])) ∧
          (∀ v, reverse (conversion e) held h = some v →
            exec .locateTime s = .next (s.serve r (if v.clamped then .clamped else .ok)
              [beBytes 5 v.value ++ data e])))) ∧
      (r.kind = 27 →
        let c := r.arg 2 5
        ((∀ e ∈ s.log.entries, e.slot = slot → ¬ e.CoversCount s c) →
          exec .locateCount s = .next (s.serve r
            (if (s.ctx slot).trimmed then .expired else .notCovered) [[]])) ∧
        (∀ before e after, s.log.entries = before ++ e :: after → e.slot = slot →
          e.CoversCount s c → (∀ x ∈ after, x.slot = slot → ¬ x.CoversCount s c) →
          let v := forward (conversion e) held c
          let l := labelOfIndex p ((s.settings.epochIndex + v.value / 1000) % labelDay p)
          exec .locateCount s = .next (s.serve r (if v.clamped then .clamped else .ok)
            [beBytes 6 v.value ++ [byteOf l.hh, byteOf l.mm, byteOf l.ss,
              byteOf ((if p.dropFrame then 128 else 0) + l.ff)] ++ data e])))) ∧
    (∀ k, r.key 0 = some k → s.lookup k = none →
      (r.kind = 26 → exec .locateTime s = .next (s.serve r .noSource [[]])) ∧
      (r.kind = 27 → exec .locateCount s = .next (s.serve r .noSource [[]]))) ∧
    (r.arg 0 1 = 0 ∨ r.arg 0 1 = 255 ∨ 4 ≤ r.arg 1 1 →
      (r.kind = 26 → exec .locateTime s = .next (s.serve r .range [[]])) ∧
      (r.kind = 27 → exec .locateCount s = .next (s.serve r .range [[]]))) ∧
    (let row (x : TakeRow) : List Byte :=
       let role := match x.role with | .camera => 0 | .recorder => 1 | .plain => 2 | .slate => 3
       let status := match x.status with
         | .fixed => 0 | .pending => 1 | .paired => 2 | .unpaired => 3 | .disagree => 4
       [byteOf x.slot, byteOf (role * 64 + status * 8 + (if x.count.isSome then 2 else 0) +
         (if x.delta.isSome then 1 else 0))] ++ beBytes 4 x.gen ++ beBytes 5 (x.count.getD 0) ++
         signedBytes 3 (x.delta.getD 0)
     let answered (t : Option Take) : State := match t with
       | none => s.serve r .noEntry [[]]
       | some t =>
         let n := (t.rows.length + 2) / 3
         s.serve r .ok (([0, byteOf (n + 1)] ++ beBytes 2 t.number ++ t.scene ++ beBytes 2 t.codeNumber ++
           [byteOf t.group, byteOf t.slate] ++ beBytes 6 t.clapPt ++ [if t.labelDiff.isSome then 1 else 0] ++
           signedBytes 3 (t.labelDiff.getD 0) ++ [Config.unstatedCode .takeStatus (if t.isOpen then 0 else 1),
             byteOf t.omitted, byteOf t.rows.length]) ::
           (List.range n).map fun j => byteOf (j + 1) :: (((t.rows.drop (3 * j)).take 3).map row).flatten)
     (r.kind = 28 → exec .takeQuery s = .next
       (answered (s.pairing.takes.find? fun t => t.number == r.arg 0 2))) ∧
     (r.kind = 29 → exec .takeFind s = .next
       (answered (s.pairing.takes.reverse.find? fun t =>
         t.scene == field r.args 0 6 && t.codeNumber == r.arg 6 2))) ∧
     (r.kind = 30 → exec .takeAt s = .next
       (answered (s.pairing.takes.reverse.find? fun t => decide (t.clapPt ≤ r.arg 0 6)))))

end Statements
end

