-- ==== Sys2Proof/Laws/Capture.lean ====
section
/-! SUPPORT. What a capture and a live write of the Run Parameter record do (R182 to R184). -/

set_option Elab.async false

namespace Sys2Proof.Laws

open Sys2Proof Sys2Proof.Machine

/-- A field with a range is valid exactly inside it (Table 9-4). -/
theorem fieldValid_eq {c lo hi : Nat} (h : fieldRange c = (lo, hi)) (v : Nat) :
    fieldValid c v = decide (lo ≤ v ∧ v ≤ hi) := by
  simp [fieldValid, h]

/-- A field's value in use: the one written, or the default for one out of range (R183, R184). -/
theorem inUse_eq {c lo hi d : Nat} (s : State) (h : fieldRange c = (lo, hi)) (hd : defaultParam c = d) :
    s.inUse c = orDefault lo hi d (s.param c) := by
  simp [State.inUse, fieldValid_eq h, orDefault, hd]

/-- The clock class that a capture takes into use, spelled out (R1, R183). -/
theorem clockInUse_eq (s : State) : clockInUse s = s.clockCaptured := by
  have h2 : (s.inUse 2 == 1) = (s.param 2 == 1) := by
    rw [inUse_eq s (rfl : fieldRange 2 = (0, 1)) (rfl : _ = 0), Bool.eq_iff_iff]
    simp only [orDefault, beq_iff_eq]
    split <;> omega
  unfold clockInUse State.clockCaptured
  rw [inUse_eq s (rfl : fieldRange 0 = (0, 8)) (rfl : _ = 0), h2,
    inUse_eq s (rfl : fieldRange 3 = (1, 2)) (rfl : _ = 1),
    inUse_eq s (rfl : fieldRange 4 = (1, 20000)) (rfl : _ = 2700),
    inUse_eq s (rfl : fieldRange 5 = (1, 10000)) (rfl : _ = 270),
    inUse_eq s (rfl : fieldRange 6 = (2, 16)) (rfl : _ = 4),
    inUse_eq s (rfl : fieldRange 7 = (2, 16)) (rfl : _ = 3)]
  simp only [ClockParams.mk.injEq, and_true, true_and]
  rw [Bool.eq_iff_iff]
  simp only [dropFrameValid, dropRateCode, Bool.and_eq_true, Bool.or_eq_true, beq_iff_eq]
  omega

/-- Field codes picked out by a test, as a list of pairs filtered. -/
theorem filter_eq_filterMap (l : List Nat) (f : Nat → Bool) :
    l.filter (fun c => !f c) =
      (l.map fun c => (c, f c)).filterMap fun x => if x.2 then none else some x.1 := by
  induction l with
  | nil => rfl
  | cons a l ih =>
    simp only [List.filter_cons, List.map_cons, List.filterMap_cons, ih]
    cases f a <;> simp

/-- The clock fields that a capture defaults, spelled out (R183). -/
theorem clockInvalid_eq (s : State) : clockInvalid s = s.clockDefaulted := by
  have h1 : dropFrameValid (s.inUse 0) (s.param 1) =
      decide (s.param 1 = 0 ∨ s.param 1 = 1 ∧ (s.param 0 = 3 ∨ s.param 0 = 7)) := by
    rw [inUse_eq s (rfl : fieldRange 0 = (0, 8)) (rfl : _ = 0), Bool.eq_iff_iff]
    simp only [dropFrameValid, dropRateCode, orDefault, Bool.and_eq_true, Bool.or_eq_true, beq_iff_eq,
      decide_eq_true_eq]
    split <;> omega
  have e : clockInvalid s = [0, 1, 2, 3, 4, 5, 6, 7].filter fun c =>
      !(if c = 1 then dropFrameValid (s.inUse 0) (s.param 1) else fieldValid c (s.param c)) := by
    unfold clockInvalid
    congr 1
    funext c
    split <;> rfl
  rw [e, filter_eq_filterMap]
  unfold State.clockDefaulted
  congr 1
  simp only [List.map_cons, List.map_nil, h1]
  simp [fieldValid_eq (rfl : fieldRange 0 = (0, 8)), fieldValid_eq (rfl : fieldRange 2 = (0, 1)),
    fieldValid_eq (rfl : fieldRange 3 = (1, 2)), fieldValid_eq (rfl : fieldRange 4 = (1, 20000)),
    fieldValid_eq (rfl : fieldRange 5 = (1, 10000)), fieldValid_eq (rfl : fieldRange 6 = (2, 16)),
    fieldValid_eq (rfl : fieldRange 7 = (2, 16))]

/-- The run fields that a capture defaults, spelled out (R183). -/
theorem runInvalid_eq (s : State) : runInvalid s s.clockCaptured = s.runDefaulted := by
  have e : runInvalid s s.clockCaptured = [8, 9, 10, 11, 12, 13].filter fun c =>
      !(if c = 8 then labelValid s.clockCaptured (writtenEpoch s) else fieldValid c (s.param c)) := by
    unfold runInvalid
    congr 1
    funext c
    split <;> rfl
  rw [e, filter_eq_filterMap]
  unfold State.runDefaulted
  congr 1

/-- A rewriting of the defaulted-field list, field by field (R183). -/
theorem rewriteDefaulted_get (codes bad : List Nat) (v : Vector Bool fieldCount) (i : Fin fieldCount) :
    (rewriteDefaulted codes bad v)[i] = if (i : Nat) ∈ codes then bad.contains (i : Nat) else v[i] := by
  unfold rewriteDefaulted
  induction codes generalizing v with
  | nil => simp
  | cons c cs ih =>
    rw [List.foldl_cons, ih]
    by_cases h : (i : Nat) ∈ cs
    · simp [h]
    · rw [if_neg h]
      unfold setDefaulted
      split
      · rename_i hc
        simp only [Fin.getElem_fin, Vector.getElem_set, List.mem_cons, h, or_false]
        by_cases hi : c = i
        · simp [hi]
        · simp [hi, Ne.symm hi]
      · rename_i hc
        have : (i : Nat) ≠ c := by have := i.isLt; omega
        simp [this, h]

theorem runDefaulted_ge (s : State) : ∀ x ∈ s.runDefaulted, 8 ≤ x := by
  intro x hx
  rw [← runInvalid_eq] at hx
  simp only [runInvalid, List.mem_filter] at hx
  have := hx.1
  simp at this; omega

theorem clockDefaulted_lt (s : State) : ∀ x ∈ s.clockDefaulted, x < 8 := by
  intro x hx
  rw [← clockInvalid_eq] at hx
  simp only [clockInvalid, List.mem_filter] at hx
  have := hx.1
  simp at this; omega

/-- The epoch label is defaulted exactly when it is invalid under the clock class captured with it (R183). -/
theorem runDefaulted_epoch (s : State) : s.runDefaulted.contains 8 =
    !labelValid s.clockCaptured (readLabel (beBytes 4 (s.param 8))) := by
  have h : ∀ l : List Nat, 8 ∉ l → l.contains 8 = false := by intro l hl; simpa using hl
  rw [← runInvalid_eq]
  unfold runInvalid
  rw [List.filter_cons]
  have h2 : (8 : Nat) ∉ List.filter (fun code => if code = 8
      then !labelValid s.clockCaptured (writtenEpoch s) else !fieldValid code (s.param code))
      [9, 10, 11, 12, 13] := by
    intro hm
    have := (List.mem_filter.1 hm).1
    simp at this
  cases hl : labelValid s.clockCaptured (writtenEpoch s)
  · have hl' := hl; unfold writtenEpoch at hl'; simp [hl']
  · have hl' := hl; unfold writtenEpoch at hl'
    rw [hl] at h2
    rw [if_neg (by simp), h _ h2, hl']; rfl

/-- The defaulted-field list after both captures (R183). -/
theorem rewriteDefaulted_both (s : State) (v : Vector Bool fieldCount) (hv : v = s.defaulted) :
    rewriteDefaulted [8, 9, 10, 11, 12, 13] s.runDefaulted
      (rewriteDefaulted [0, 1, 2, 3, 4, 5, 6, 7] s.clockDefaulted v) =
    s.listedAfter 14 (s.clockDefaulted ++ s.runDefaulted) := by
  subst hv
  ext i hi
  have h1 := rewriteDefaulted_get [8, 9, 10, 11, 12, 13] s.runDefaulted
    (rewriteDefaulted [0, 1, 2, 3, 4, 5, 6, 7] s.clockDefaulted s.defaulted) ⟨i, hi⟩
  have h2 := rewriteDefaulted_get [0, 1, 2, 3, 4, 5, 6, 7] s.clockDefaulted s.defaulted ⟨i, hi⟩
  simp only [Fin.getElem_fin] at h1 h2
  rw [h1, h2]
  simp only [State.listedAfter, Vector.getElem_ofFn, Fin.getElem_fin]
  by_cases ha : i < 8
  · have hn : i ∉ s.runDefaulted := fun h => by have := runDefaulted_ge s i h; omega
    rw [if_neg (by simp; omega), if_pos (by simp; omega), if_pos (by omega)]
    simp [hn]
  · have hn : i ∉ s.clockDefaulted := fun h => by have := clockDefaulted_lt s i h; omega
    by_cases hb : i < 14
    · rw [if_pos (by simp; omega), if_pos hb]; simp [hn]
    · rw [if_neg (by simp; omega), if_neg (by simp; omega), if_neg hb]

/-- One pair of field code and value (R27). -/
theorem paramPairs_one (c : Nat) (v : BitVec 32) (hc : c < 256) :
    paramPairs (byteOf c :: beBytes 4 v.toNat) = [(c, v.toNat)] := by
  have hbe : beBytes 4 v.toNat = [byteOf (v.toNat / 256 ^ 3), byteOf (v.toNat / 256 ^ 2),
      byteOf (v.toNat / 256), byteOf v.toNat] := by simp [beBytes]
  rw [hbe]
  simp only [paramPairs, beNat, byteOf, List.foldl, List.cons.injEq, and_true, Prod.mk.injEq, BitVec.toNat_ofNat]
  have := v.isLt
  constructor
  · omega
  · omega

/-- A field's value after a write of one field (R182). -/
theorem param_set (s : State) (c : Fin 58) (v : BitVec 32) (d : Nat) :
    ({ s with paramRecord := s.paramRecord.set c v } : State).param d =
      if d = c then v.toNat else s.param d := by
  unfold State.param
  by_cases h : d < fieldCount
  · simp only [h, dif_pos, Vector.getElem_set]
    by_cases e : (c : Nat) = d
    · simp [e]
    · simp [e, Ne.symm e]
  · have : d ≠ c := by have := c.isLt; unfold fieldCount at h; omega
    simp [h, this]

/-- The valid values of a live field, spelled out (Table 9-4). -/
theorem liveValid_eq (c v : Nat) (h : 14 ≤ c) : liveValid c v = fieldValid c v := by
  unfold liveValid fieldValid fieldRange
  simp only [show ¬ c = 0 by omega, show ¬ c ≤ 2 by omega, show ¬ c = 3 by omega, show ¬ c = 4 by omega,
    show ¬ c = 5 by omega, show ¬ c ≤ 7 by omega, show ¬ c = 8 by omega, show ¬ c = 9 by omega,
    show ¬ c = 10 by omega, show ¬ c ≤ 13 by omega, if_false]
  by_cases h1 : c = 14
  · simp [h1]
  by_cases h2 : c = 15
  · simp [h2]
  by_cases h3 : c ≤ 34
  · simp [h1, h2, h3]
  by_cases h4 : c ≤ 54
  · simp [h1, h2, h3, h4]
  by_cases h5 : c ≤ 56
  · simp [h1, h2, h3, h4, h5]
  simp [h1, h2, h3, h4, h5]

end Sys2Proof.Laws
end

