-- ==== Sys2Proof/Laws/State.lean ====
section
/-! SUPPORT. One lemma for each field and each named update of the state: what an update leaves alone, and what
a read of the updated place gives. -/

set_option Elab.async false

namespace Sys2Proof.Laws

open Sys2Proof.Machine

/-! ### Ports (R39, R42) -/

@[simp] theorem setPort_powered (s : State) (p : Port) (x : PortState) :
    (s.setPort p x).powered = s.powered := by cases p <;> rfl
@[simp] theorem setPort_resetLow (s : State) (p : Port) (x : PortState) :
    (s.setPort p x).resetLow = s.resetLow := by cases p <;> rfl
@[simp] theorem setPort_pending (s : State) (p : Port) (x : PortState) :
    (s.setPort p x).pending = s.pending := by cases p <;> rfl
@[simp] theorem setPort_mgmt (s : State) (p : Port) (x : PortState) :
    (s.setPort p x).mgmt = s.mgmt := by cases p <;> rfl
@[simp] theorem setPort_boot (s : State) (p : Port) (x : PortState) :
    (s.setPort p x).boot = s.boot := by cases p <;> rfl
@[simp] theorem setPort_paramRecord (s : State) (p : Port) (x : PortState) :
    (s.setPort p x).paramRecord = s.paramRecord := by cases p <;> rfl
@[simp] theorem setPort_defaulted (s : State) (p : Port) (x : PortState) :
    (s.setPort p x).defaulted = s.defaulted := by cases p <;> rfl
@[simp] theorem setPort_clock (s : State) (p : Port) (x : PortState) :
    (s.setPort p x).clock = s.clock := by cases p <;> rfl
@[simp] theorem setPort_monitor (s : State) (p : Port) (x : PortState) :
    (s.setPort p x).monitor = s.monitor := by cases p <;> rfl
@[simp] theorem setPort_settings (s : State) (p : Port) (x : PortState) :
    (s.setPort p x).settings = s.settings := by cases p <;> rfl
@[simp] theorem setPort_tick (s : State) (p : Port) (x : PortState) :
    (s.setPort p x).tick = s.tick := by cases p <;> rfl
@[simp] theorem setPort_lines (s : State) (p : Port) (x : PortState) :
    (s.setPort p x).lines = s.lines := by cases p <;> rfl
@[simp] theorem setPort_tables (s : State) (p : Port) (x : PortState) :
    (s.setPort p x).tables = s.tables := by cases p <;> rfl
@[simp] theorem setPort_contexts (s : State) (p : Port) (x : PortState) :
    (s.setPort p x).contexts = s.contexts := by cases p <;> rfl
@[simp] theorem setPort_log (s : State) (p : Port) (x : PortState) :
    (s.setPort p x).log = s.log := by cases p <;> rfl
@[simp] theorem setPort_locate (s : State) (p : Port) (x : PortState) :
    (s.setPort p x).locate = s.locate := by cases p <;> rfl
@[simp] theorem setPort_pairing (s : State) (p : Port) (x : PortState) :
    (s.setPort p x).pairing = s.pairing := by cases p <;> rfl
@[simp] theorem setPort_events (s : State) (p : Port) (x : PortState) :
    (s.setPort p x).events = s.events := by cases p <;> rfl
@[simp] theorem setPort_faultn (s : State) (p : Port) (x : PortState) :
    (s.setPort p x).faultn = s.faultn := by cases p <;> rfl
@[simp] theorem setPort_freeDraws (s : State) (p : Port) (x : PortState) :
    (s.setPort p x).freeDraws = s.freeDraws := by cases p <;> rfl
@[simp] theorem setPort_port_same (s : State) (p : Port) (x : PortState) : (s.setPort p x).port p = x := by
  cases p <;> rfl
@[simp] theorem setPort_port_other (s : State) (p : Port) (x : PortState) :
    (s.setPort p x).port (otherPort p) = s.port (otherPort p) := by cases p <;> rfl
@[simp] theorem setPort_other_port (s : State) (p : Port) (x : PortState) :
    (s.setPort (otherPort p) x).port p = s.port p := by cases p <;> rfl
@[simp] theorem setPort_setPort (s : State) (p : Port) (x y : PortState) :
    (s.setPort p x).setPort p y = s.setPort p y := by cases p <;> rfl
@[simp] theorem otherPort_otherPort (p : Port) : otherPort (otherPort p) = p := by cases p <;> rfl
@[simp] theorem countAt_powered (s : State) (p : Port) (f : Counters → Counters) :
    (s.countAt p f).powered = s.powered := by cases p <;> rfl
@[simp] theorem countAt_resetLow (s : State) (p : Port) (f : Counters → Counters) :
    (s.countAt p f).resetLow = s.resetLow := by cases p <;> rfl
@[simp] theorem countAt_pending (s : State) (p : Port) (f : Counters → Counters) :
    (s.countAt p f).pending = s.pending := by cases p <;> rfl
@[simp] theorem countAt_mgmt (s : State) (p : Port) (f : Counters → Counters) :
    (s.countAt p f).mgmt = s.mgmt := by cases p <;> rfl
@[simp] theorem countAt_boot (s : State) (p : Port) (f : Counters → Counters) :
    (s.countAt p f).boot = s.boot := by cases p <;> rfl
@[simp] theorem countAt_paramRecord (s : State) (p : Port) (f : Counters → Counters) :
    (s.countAt p f).paramRecord = s.paramRecord := by cases p <;> rfl
@[simp] theorem countAt_defaulted (s : State) (p : Port) (f : Counters → Counters) :
    (s.countAt p f).defaulted = s.defaulted := by cases p <;> rfl
@[simp] theorem countAt_clock (s : State) (p : Port) (f : Counters → Counters) :
    (s.countAt p f).clock = s.clock := by cases p <;> rfl
@[simp] theorem countAt_monitor (s : State) (p : Port) (f : Counters → Counters) :
    (s.countAt p f).monitor = s.monitor := by cases p <;> rfl
@[simp] theorem countAt_settings (s : State) (p : Port) (f : Counters → Counters) :
    (s.countAt p f).settings = s.settings := by cases p <;> rfl
@[simp] theorem countAt_tick (s : State) (p : Port) (f : Counters → Counters) :
    (s.countAt p f).tick = s.tick := by cases p <;> rfl
@[simp] theorem countAt_lines (s : State) (p : Port) (f : Counters → Counters) :
    (s.countAt p f).lines = s.lines := by cases p <;> rfl
@[simp] theorem countAt_tables (s : State) (p : Port) (f : Counters → Counters) :
    (s.countAt p f).tables = s.tables := by cases p <;> rfl
@[simp] theorem countAt_contexts (s : State) (p : Port) (f : Counters → Counters) :
    (s.countAt p f).contexts = s.contexts := by cases p <;> rfl
@[simp] theorem countAt_log (s : State) (p : Port) (f : Counters → Counters) :
    (s.countAt p f).log = s.log := by cases p <;> rfl
@[simp] theorem countAt_locate (s : State) (p : Port) (f : Counters → Counters) :
    (s.countAt p f).locate = s.locate := by cases p <;> rfl
@[simp] theorem countAt_pairing (s : State) (p : Port) (f : Counters → Counters) :
    (s.countAt p f).pairing = s.pairing := by cases p <;> rfl
@[simp] theorem countAt_events (s : State) (p : Port) (f : Counters → Counters) :
    (s.countAt p f).events = s.events := by cases p <;> rfl
@[simp] theorem countAt_faultn (s : State) (p : Port) (f : Counters → Counters) :
    (s.countAt p f).faultn = s.faultn := by cases p <;> rfl
@[simp] theorem countAt_freeDraws (s : State) (p : Port) (f : Counters → Counters) :
    (s.countAt p f).freeDraws = s.freeDraws := by cases p <;> rfl
@[simp] theorem pushCell_powered (s : State) (p : Port) (c : Cell) :
    (s.pushCell p c).powered = s.powered := by cases p <;> rfl
@[simp] theorem pushCell_resetLow (s : State) (p : Port) (c : Cell) :
    (s.pushCell p c).resetLow = s.resetLow := by cases p <;> rfl
@[simp] theorem pushCell_pending (s : State) (p : Port) (c : Cell) :
    (s.pushCell p c).pending = s.pending := by cases p <;> rfl
@[simp] theorem pushCell_mgmt (s : State) (p : Port) (c : Cell) :
    (s.pushCell p c).mgmt = s.mgmt := by cases p <;> rfl
@[simp] theorem pushCell_boot (s : State) (p : Port) (c : Cell) :
    (s.pushCell p c).boot = s.boot := by cases p <;> rfl
@[simp] theorem pushCell_paramRecord (s : State) (p : Port) (c : Cell) :
    (s.pushCell p c).paramRecord = s.paramRecord := by cases p <;> rfl
@[simp] theorem pushCell_defaulted (s : State) (p : Port) (c : Cell) :
    (s.pushCell p c).defaulted = s.defaulted := by cases p <;> rfl
@[simp] theorem pushCell_clock (s : State) (p : Port) (c : Cell) :
    (s.pushCell p c).clock = s.clock := by cases p <;> rfl
@[simp] theorem pushCell_monitor (s : State) (p : Port) (c : Cell) :
    (s.pushCell p c).monitor = s.monitor := by cases p <;> rfl
@[simp] theorem pushCell_settings (s : State) (p : Port) (c : Cell) :
    (s.pushCell p c).settings = s.settings := by cases p <;> rfl
@[simp] theorem pushCell_tick (s : State) (p : Port) (c : Cell) :
    (s.pushCell p c).tick = s.tick := by cases p <;> rfl
@[simp] theorem pushCell_lines (s : State) (p : Port) (c : Cell) :
    (s.pushCell p c).lines = s.lines := by cases p <;> rfl
@[simp] theorem pushCell_tables (s : State) (p : Port) (c : Cell) :
    (s.pushCell p c).tables = s.tables := by cases p <;> rfl
@[simp] theorem pushCell_contexts (s : State) (p : Port) (c : Cell) :
    (s.pushCell p c).contexts = s.contexts := by cases p <;> rfl
@[simp] theorem pushCell_log (s : State) (p : Port) (c : Cell) :
    (s.pushCell p c).log = s.log := by cases p <;> rfl
@[simp] theorem pushCell_locate (s : State) (p : Port) (c : Cell) :
    (s.pushCell p c).locate = s.locate := by cases p <;> rfl
@[simp] theorem pushCell_pairing (s : State) (p : Port) (c : Cell) :
    (s.pushCell p c).pairing = s.pairing := by cases p <;> rfl
@[simp] theorem pushCell_events (s : State) (p : Port) (c : Cell) :
    (s.pushCell p c).events = s.events := by cases p <;> rfl
@[simp] theorem pushCell_faultn (s : State) (p : Port) (c : Cell) :
    (s.pushCell p c).faultn = s.faultn := by cases p <;> rfl
@[simp] theorem pushCell_freeDraws (s : State) (p : Port) (c : Cell) :
    (s.pushCell p c).freeDraws = s.freeDraws := by cases p <;> rfl
@[simp] theorem pushMade_powered (s : State) (p : Port) (dest : Byte) (kind : Nat) (d : List Byte) :
    (s.pushMade p dest kind d).powered = s.powered := by cases p <;> rfl
@[simp] theorem pushMade_resetLow (s : State) (p : Port) (dest : Byte) (kind : Nat) (d : List Byte) :
    (s.pushMade p dest kind d).resetLow = s.resetLow := by cases p <;> rfl
@[simp] theorem pushMade_pending (s : State) (p : Port) (dest : Byte) (kind : Nat) (d : List Byte) :
    (s.pushMade p dest kind d).pending = s.pending := by cases p <;> rfl
@[simp] theorem pushMade_mgmt (s : State) (p : Port) (dest : Byte) (kind : Nat) (d : List Byte) :
    (s.pushMade p dest kind d).mgmt = s.mgmt := by cases p <;> rfl
@[simp] theorem pushMade_boot (s : State) (p : Port) (dest : Byte) (kind : Nat) (d : List Byte) :
    (s.pushMade p dest kind d).boot = s.boot := by cases p <;> rfl
@[simp] theorem pushMade_paramRecord (s : State) (p : Port) (dest : Byte) (kind : Nat) (d : List Byte) :
    (s.pushMade p dest kind d).paramRecord = s.paramRecord := by cases p <;> rfl
@[simp] theorem pushMade_defaulted (s : State) (p : Port) (dest : Byte) (kind : Nat) (d : List Byte) :
    (s.pushMade p dest kind d).defaulted = s.defaulted := by cases p <;> rfl
@[simp] theorem pushMade_clock (s : State) (p : Port) (dest : Byte) (kind : Nat) (d : List Byte) :
    (s.pushMade p dest kind d).clock = s.clock := by cases p <;> rfl
@[simp] theorem pushMade_monitor (s : State) (p : Port) (dest : Byte) (kind : Nat) (d : List Byte) :
    (s.pushMade p dest kind d).monitor = s.monitor := by cases p <;> rfl
@[simp] theorem pushMade_settings (s : State) (p : Port) (dest : Byte) (kind : Nat) (d : List Byte) :
    (s.pushMade p dest kind d).settings = s.settings := by cases p <;> rfl
@[simp] theorem pushMade_tick (s : State) (p : Port) (dest : Byte) (kind : Nat) (d : List Byte) :
    (s.pushMade p dest kind d).tick = s.tick := by cases p <;> rfl
@[simp] theorem pushMade_lines (s : State) (p : Port) (dest : Byte) (kind : Nat) (d : List Byte) :
    (s.pushMade p dest kind d).lines = s.lines := by cases p <;> rfl
@[simp] theorem pushMade_tables (s : State) (p : Port) (dest : Byte) (kind : Nat) (d : List Byte) :
    (s.pushMade p dest kind d).tables = s.tables := by cases p <;> rfl
@[simp] theorem pushMade_contexts (s : State) (p : Port) (dest : Byte) (kind : Nat) (d : List Byte) :
    (s.pushMade p dest kind d).contexts = s.contexts := by cases p <;> rfl
@[simp] theorem pushMade_log (s : State) (p : Port) (dest : Byte) (kind : Nat) (d : List Byte) :
    (s.pushMade p dest kind d).log = s.log := by cases p <;> rfl
@[simp] theorem pushMade_locate (s : State) (p : Port) (dest : Byte) (kind : Nat) (d : List Byte) :
    (s.pushMade p dest kind d).locate = s.locate := by cases p <;> rfl
@[simp] theorem pushMade_pairing (s : State) (p : Port) (dest : Byte) (kind : Nat) (d : List Byte) :
    (s.pushMade p dest kind d).pairing = s.pairing := by cases p <;> rfl
@[simp] theorem pushMade_events (s : State) (p : Port) (dest : Byte) (kind : Nat) (d : List Byte) :
    (s.pushMade p dest kind d).events = s.events := by cases p <;> rfl
@[simp] theorem pushMade_faultn (s : State) (p : Port) (dest : Byte) (kind : Nat) (d : List Byte) :
    (s.pushMade p dest kind d).faultn = s.faultn := by cases p <;> rfl
@[simp] theorem pushMade_freeDraws (s : State) (p : Port) (dest : Byte) (kind : Nat) (d : List Byte) :
    (s.pushMade p dest kind d).freeDraws = s.freeDraws := by cases p <;> rfl
@[simp] theorem received_powered (s : State) (p : Port) (f : Counters → Counters) :
    (s.received p f).powered = s.powered := by cases p <;> rfl
@[simp] theorem received_resetLow (s : State) (p : Port) (f : Counters → Counters) :
    (s.received p f).resetLow = s.resetLow := by cases p <;> rfl
@[simp] theorem received_pending (s : State) (p : Port) (f : Counters → Counters) :
    (s.received p f).pending = s.pending := by cases p <;> rfl
@[simp] theorem received_mgmt (s : State) (p : Port) (f : Counters → Counters) :
    (s.received p f).mgmt = s.mgmt := by cases p <;> rfl
@[simp] theorem received_boot (s : State) (p : Port) (f : Counters → Counters) :
    (s.received p f).boot = s.boot := by cases p <;> rfl
@[simp] theorem received_paramRecord (s : State) (p : Port) (f : Counters → Counters) :
    (s.received p f).paramRecord = s.paramRecord := by cases p <;> rfl
@[simp] theorem received_defaulted (s : State) (p : Port) (f : Counters → Counters) :
    (s.received p f).defaulted = s.defaulted := by cases p <;> rfl
@[simp] theorem received_clock (s : State) (p : Port) (f : Counters → Counters) :
    (s.received p f).clock = s.clock := by cases p <;> rfl
@[simp] theorem received_monitor (s : State) (p : Port) (f : Counters → Counters) :
    (s.received p f).monitor = s.monitor := by cases p <;> rfl
@[simp] theorem received_settings (s : State) (p : Port) (f : Counters → Counters) :
    (s.received p f).settings = s.settings := by cases p <;> rfl
@[simp] theorem received_tick (s : State) (p : Port) (f : Counters → Counters) :
    (s.received p f).tick = s.tick := by cases p <;> rfl
@[simp] theorem received_lines (s : State) (p : Port) (f : Counters → Counters) :
    (s.received p f).lines = s.lines := by cases p <;> rfl
@[simp] theorem received_tables (s : State) (p : Port) (f : Counters → Counters) :
    (s.received p f).tables = s.tables := by cases p <;> rfl
@[simp] theorem received_contexts (s : State) (p : Port) (f : Counters → Counters) :
    (s.received p f).contexts = s.contexts := by cases p <;> rfl
@[simp] theorem received_log (s : State) (p : Port) (f : Counters → Counters) :
    (s.received p f).log = s.log := by cases p <;> rfl
@[simp] theorem received_locate (s : State) (p : Port) (f : Counters → Counters) :
    (s.received p f).locate = s.locate := by cases p <;> rfl
@[simp] theorem received_pairing (s : State) (p : Port) (f : Counters → Counters) :
    (s.received p f).pairing = s.pairing := by cases p <;> rfl
@[simp] theorem received_events (s : State) (p : Port) (f : Counters → Counters) :
    (s.received p f).events = s.events := by cases p <;> rfl
@[simp] theorem received_faultn (s : State) (p : Port) (f : Counters → Counters) :
    (s.received p f).faultn = s.faultn := by cases p <;> rfl
@[simp] theorem received_freeDraws (s : State) (p : Port) (f : Counters → Counters) :
    (s.received p f).freeDraws = s.freeDraws := by cases p <;> rfl
theorem joined_eq (s : State) (p : Port) (dest : Byte) (kind : Nat) (d : List Byte) :
    s.joined p dest kind d = s.pushMade p dest kind d := rfl
theorem relayed_eq (s : State) (p : Port) (w : Cell) : s.relayed p w =
    (s.pushCell (otherPort p) w).countAt (otherPort p)
      fun x => { x with forwardedOut := bump x.forwardedOut } := by cases p <;> rfl
theorem received_eq (s : State) (p : Port) (f : Counters → Counters) : s.received p f =
    ((s.setPort p { s.port p with header := none }).countAt p
      fun x => { x with arrived := bump x.arrived }).countAt p f := by cases p <;> rfl
@[simp] theorem received_hasRoom (s : State) (p q : Port) (f : Counters → Counters) :
    (s.received p f).hasRoom q = s.hasRoom q := by cases p <;> cases q <;> rfl
@[simp] theorem countAt_hasRoom (s : State) (p q : Port) (f : Counters → Counters) :
    (s.countAt p f).hasRoom q = s.hasRoom q := by cases p <;> cases q <;> rfl
@[simp] theorem received_countAt (s : State) (p : Port) (f g : Counters → Counters) :
    (s.received p f).countAt p g = s.received p fun x => g (f x) := by cases p <;> rfl

/-! ### Contexts (R99) -/

@[simp] theorem setCtx_powered (s : State) (i : Fin 128) (c : Context) :
    (s.setCtx i c).powered = s.powered := rfl
@[simp] theorem setCtx_resetLow (s : State) (i : Fin 128) (c : Context) :
    (s.setCtx i c).resetLow = s.resetLow := rfl
@[simp] theorem setCtx_pending (s : State) (i : Fin 128) (c : Context) :
    (s.setCtx i c).pending = s.pending := rfl
@[simp] theorem setCtx_mgmt (s : State) (i : Fin 128) (c : Context) :
    (s.setCtx i c).mgmt = s.mgmt := rfl
@[simp] theorem setCtx_boot (s : State) (i : Fin 128) (c : Context) :
    (s.setCtx i c).boot = s.boot := rfl
@[simp] theorem setCtx_paramRecord (s : State) (i : Fin 128) (c : Context) :
    (s.setCtx i c).paramRecord = s.paramRecord := rfl
@[simp] theorem setCtx_defaulted (s : State) (i : Fin 128) (c : Context) :
    (s.setCtx i c).defaulted = s.defaulted := rfl
@[simp] theorem setCtx_clock (s : State) (i : Fin 128) (c : Context) :
    (s.setCtx i c).clock = s.clock := rfl
@[simp] theorem setCtx_monitor (s : State) (i : Fin 128) (c : Context) :
    (s.setCtx i c).monitor = s.monitor := rfl
@[simp] theorem setCtx_settings (s : State) (i : Fin 128) (c : Context) :
    (s.setCtx i c).settings = s.settings := rfl
@[simp] theorem setCtx_tick (s : State) (i : Fin 128) (c : Context) :
    (s.setCtx i c).tick = s.tick := rfl
@[simp] theorem setCtx_lines (s : State) (i : Fin 128) (c : Context) :
    (s.setCtx i c).lines = s.lines := rfl
@[simp] theorem setCtx_portS (s : State) (i : Fin 128) (c : Context) :
    (s.setCtx i c).portS = s.portS := rfl
@[simp] theorem setCtx_portP (s : State) (i : Fin 128) (c : Context) :
    (s.setCtx i c).portP = s.portP := rfl
@[simp] theorem setCtx_tables (s : State) (i : Fin 128) (c : Context) :
    (s.setCtx i c).tables = s.tables := rfl
@[simp] theorem setCtx_log (s : State) (i : Fin 128) (c : Context) :
    (s.setCtx i c).log = s.log := rfl
@[simp] theorem setCtx_locate (s : State) (i : Fin 128) (c : Context) :
    (s.setCtx i c).locate = s.locate := rfl
@[simp] theorem setCtx_pairing (s : State) (i : Fin 128) (c : Context) :
    (s.setCtx i c).pairing = s.pairing := rfl
@[simp] theorem setCtx_events (s : State) (i : Fin 128) (c : Context) :
    (s.setCtx i c).events = s.events := rfl
@[simp] theorem setCtx_faultn (s : State) (i : Fin 128) (c : Context) :
    (s.setCtx i c).faultn = s.faultn := rfl
@[simp] theorem setCtx_freeDraws (s : State) (i : Fin 128) (c : Context) :
    (s.setCtx i c).freeDraws = s.freeDraws := rfl
@[simp] theorem setCtx_ctx_same (s : State) (i : Fin 128) (c : Context) : (s.setCtx i c).ctx i = c := by
  simp [State.ctx, State.setCtx]
theorem setCtx_ctx_ne (s : State) (i j : Fin 128) (c : Context) (h : i ≠ j) :
    (s.setCtx i c).ctx j = s.ctx j := by
  have : (i : Nat) ≠ j := fun e => h (Fin.ext e)
  simp [State.ctx, State.setCtx, this]
@[simp] theorem setCtx_setCtx (s : State) (i : Fin 128) (c d : Context) :
    (s.setCtx i c).setCtx i d = s.setCtx i d := by
  simp [State.setCtx]

/-! ### The Table Store (R46, R51, R55) -/

@[simp] theorem setMap_powered (s : State) (i : Fin 256) (e : Option (Stored MapEntry)) :
    (s.setMap i e).powered = s.powered := rfl
@[simp] theorem setMap_resetLow (s : State) (i : Fin 256) (e : Option (Stored MapEntry)) :
    (s.setMap i e).resetLow = s.resetLow := rfl
@[simp] theorem setMap_pending (s : State) (i : Fin 256) (e : Option (Stored MapEntry)) :
    (s.setMap i e).pending = s.pending := rfl
@[simp] theorem setMap_mgmt (s : State) (i : Fin 256) (e : Option (Stored MapEntry)) :
    (s.setMap i e).mgmt = s.mgmt := rfl
@[simp] theorem setMap_boot (s : State) (i : Fin 256) (e : Option (Stored MapEntry)) :
    (s.setMap i e).boot = s.boot := rfl
@[simp] theorem setMap_paramRecord (s : State) (i : Fin 256) (e : Option (Stored MapEntry)) :
    (s.setMap i e).paramRecord = s.paramRecord := rfl
@[simp] theorem setMap_defaulted (s : State) (i : Fin 256) (e : Option (Stored MapEntry)) :
    (s.setMap i e).defaulted = s.defaulted := rfl
@[simp] theorem setMap_clock (s : State) (i : Fin 256) (e : Option (Stored MapEntry)) :
    (s.setMap i e).clock = s.clock := rfl
@[simp] theorem setMap_monitor (s : State) (i : Fin 256) (e : Option (Stored MapEntry)) :
    (s.setMap i e).monitor = s.monitor := rfl
@[simp] theorem setMap_settings (s : State) (i : Fin 256) (e : Option (Stored MapEntry)) :
    (s.setMap i e).settings = s.settings := rfl
@[simp] theorem setMap_tick (s : State) (i : Fin 256) (e : Option (Stored MapEntry)) :
    (s.setMap i e).tick = s.tick := rfl
@[simp] theorem setMap_lines (s : State) (i : Fin 256) (e : Option (Stored MapEntry)) :
    (s.setMap i e).lines = s.lines := rfl
@[simp] theorem setMap_portS (s : State) (i : Fin 256) (e : Option (Stored MapEntry)) :
    (s.setMap i e).portS = s.portS := rfl
@[simp] theorem setMap_portP (s : State) (i : Fin 256) (e : Option (Stored MapEntry)) :
    (s.setMap i e).portP = s.portP := rfl
@[simp] theorem setMap_contexts (s : State) (i : Fin 256) (e : Option (Stored MapEntry)) :
    (s.setMap i e).contexts = s.contexts := rfl
@[simp] theorem setMap_log (s : State) (i : Fin 256) (e : Option (Stored MapEntry)) :
    (s.setMap i e).log = s.log := rfl
@[simp] theorem setMap_locate (s : State) (i : Fin 256) (e : Option (Stored MapEntry)) :
    (s.setMap i e).locate = s.locate := rfl
@[simp] theorem setMap_pairing (s : State) (i : Fin 256) (e : Option (Stored MapEntry)) :
    (s.setMap i e).pairing = s.pairing := rfl
@[simp] theorem setMap_events (s : State) (i : Fin 256) (e : Option (Stored MapEntry)) :
    (s.setMap i e).events = s.events := rfl
@[simp] theorem setMap_faultn (s : State) (i : Fin 256) (e : Option (Stored MapEntry)) :
    (s.setMap i e).faultn = s.faultn := rfl
@[simp] theorem setMap_freeDraws (s : State) (i : Fin 256) (e : Option (Stored MapEntry)) :
    (s.setMap i e).freeDraws = s.freeDraws := rfl
@[simp] theorem setSource_powered (s : State) (i : Fin 128) (e : Option (Stored SourceEntry)) :
    (s.setSource i e).powered = s.powered := rfl
@[simp] theorem setSource_resetLow (s : State) (i : Fin 128) (e : Option (Stored SourceEntry)) :
    (s.setSource i e).resetLow = s.resetLow := rfl
@[simp] theorem setSource_pending (s : State) (i : Fin 128) (e : Option (Stored SourceEntry)) :
    (s.setSource i e).pending = s.pending := rfl
@[simp] theorem setSource_mgmt (s : State) (i : Fin 128) (e : Option (Stored SourceEntry)) :
    (s.setSource i e).mgmt = s.mgmt := rfl
@[simp] theorem setSource_boot (s : State) (i : Fin 128) (e : Option (Stored SourceEntry)) :
    (s.setSource i e).boot = s.boot := rfl
@[simp] theorem setSource_paramRecord (s : State) (i : Fin 128) (e : Option (Stored SourceEntry)) :
    (s.setSource i e).paramRecord = s.paramRecord := rfl
@[simp] theorem setSource_defaulted (s : State) (i : Fin 128) (e : Option (Stored SourceEntry)) :
    (s.setSource i e).defaulted = s.defaulted := rfl
@[simp] theorem setSource_clock (s : State) (i : Fin 128) (e : Option (Stored SourceEntry)) :
    (s.setSource i e).clock = s.clock := rfl
@[simp] theorem setSource_monitor (s : State) (i : Fin 128) (e : Option (Stored SourceEntry)) :
    (s.setSource i e).monitor = s.monitor := rfl
@[simp] theorem setSource_settings (s : State) (i : Fin 128) (e : Option (Stored SourceEntry)) :
    (s.setSource i e).settings = s.settings := rfl
@[simp] theorem setSource_tick (s : State) (i : Fin 128) (e : Option (Stored SourceEntry)) :
    (s.setSource i e).tick = s.tick := rfl
@[simp] theorem setSource_lines (s : State) (i : Fin 128) (e : Option (Stored SourceEntry)) :
    (s.setSource i e).lines = s.lines := rfl
@[simp] theorem setSource_portS (s : State) (i : Fin 128) (e : Option (Stored SourceEntry)) :
    (s.setSource i e).portS = s.portS := rfl
@[simp] theorem setSource_portP (s : State) (i : Fin 128) (e : Option (Stored SourceEntry)) :
    (s.setSource i e).portP = s.portP := rfl
@[simp] theorem setSource_contexts (s : State) (i : Fin 128) (e : Option (Stored SourceEntry)) :
    (s.setSource i e).contexts = s.contexts := rfl
@[simp] theorem setSource_log (s : State) (i : Fin 128) (e : Option (Stored SourceEntry)) :
    (s.setSource i e).log = s.log := rfl
@[simp] theorem setSource_locate (s : State) (i : Fin 128) (e : Option (Stored SourceEntry)) :
    (s.setSource i e).locate = s.locate := rfl
@[simp] theorem setSource_pairing (s : State) (i : Fin 128) (e : Option (Stored SourceEntry)) :
    (s.setSource i e).pairing = s.pairing := rfl
@[simp] theorem setSource_events (s : State) (i : Fin 128) (e : Option (Stored SourceEntry)) :
    (s.setSource i e).events = s.events := rfl
@[simp] theorem setSource_faultn (s : State) (i : Fin 128) (e : Option (Stored SourceEntry)) :
    (s.setSource i e).faultn = s.faultn := rfl
@[simp] theorem setSource_freeDraws (s : State) (i : Fin 128) (e : Option (Stored SourceEntry)) :
    (s.setSource i e).freeDraws = s.freeDraws := rfl
@[simp] theorem setGroup_powered (s : State) (i : Fin 16) (e : Option (Stored GroupEntry)) :
    (s.setGroup i e).powered = s.powered := rfl
@[simp] theorem setGroup_resetLow (s : State) (i : Fin 16) (e : Option (Stored GroupEntry)) :
    (s.setGroup i e).resetLow = s.resetLow := rfl
@[simp] theorem setGroup_pending (s : State) (i : Fin 16) (e : Option (Stored GroupEntry)) :
    (s.setGroup i e).pending = s.pending := rfl
@[simp] theorem setGroup_mgmt (s : State) (i : Fin 16) (e : Option (Stored GroupEntry)) :
    (s.setGroup i e).mgmt = s.mgmt := rfl
@[simp] theorem setGroup_boot (s : State) (i : Fin 16) (e : Option (Stored GroupEntry)) :
    (s.setGroup i e).boot = s.boot := rfl
@[simp] theorem setGroup_paramRecord (s : State) (i : Fin 16) (e : Option (Stored GroupEntry)) :
    (s.setGroup i e).paramRecord = s.paramRecord := rfl
@[simp] theorem setGroup_defaulted (s : State) (i : Fin 16) (e : Option (Stored GroupEntry)) :
    (s.setGroup i e).defaulted = s.defaulted := rfl
@[simp] theorem setGroup_clock (s : State) (i : Fin 16) (e : Option (Stored GroupEntry)) :
    (s.setGroup i e).clock = s.clock := rfl
@[simp] theorem setGroup_monitor (s : State) (i : Fin 16) (e : Option (Stored GroupEntry)) :
    (s.setGroup i e).monitor = s.monitor := rfl
@[simp] theorem setGroup_settings (s : State) (i : Fin 16) (e : Option (Stored GroupEntry)) :
    (s.setGroup i e).settings = s.settings := rfl
@[simp] theorem setGroup_tick (s : State) (i : Fin 16) (e : Option (Stored GroupEntry)) :
    (s.setGroup i e).tick = s.tick := rfl
@[simp] theorem setGroup_lines (s : State) (i : Fin 16) (e : Option (Stored GroupEntry)) :
    (s.setGroup i e).lines = s.lines := rfl
@[simp] theorem setGroup_portS (s : State) (i : Fin 16) (e : Option (Stored GroupEntry)) :
    (s.setGroup i e).portS = s.portS := rfl
@[simp] theorem setGroup_portP (s : State) (i : Fin 16) (e : Option (Stored GroupEntry)) :
    (s.setGroup i e).portP = s.portP := rfl
@[simp] theorem setGroup_contexts (s : State) (i : Fin 16) (e : Option (Stored GroupEntry)) :
    (s.setGroup i e).contexts = s.contexts := rfl
@[simp] theorem setGroup_log (s : State) (i : Fin 16) (e : Option (Stored GroupEntry)) :
    (s.setGroup i e).log = s.log := rfl
@[simp] theorem setGroup_locate (s : State) (i : Fin 16) (e : Option (Stored GroupEntry)) :
    (s.setGroup i e).locate = s.locate := rfl
@[simp] theorem setGroup_pairing (s : State) (i : Fin 16) (e : Option (Stored GroupEntry)) :
    (s.setGroup i e).pairing = s.pairing := rfl
@[simp] theorem setGroup_events (s : State) (i : Fin 16) (e : Option (Stored GroupEntry)) :
    (s.setGroup i e).events = s.events := rfl
@[simp] theorem setGroup_faultn (s : State) (i : Fin 16) (e : Option (Stored GroupEntry)) :
    (s.setGroup i e).faultn = s.faultn := rfl
@[simp] theorem setGroup_freeDraws (s : State) (i : Fin 16) (e : Option (Stored GroupEntry)) :
    (s.setGroup i e).freeDraws = s.freeDraws := rfl
@[simp] theorem setWalk_powered (s : State) (w : WalkState) :
    (s.setWalk w).powered = s.powered := rfl
@[simp] theorem setWalk_resetLow (s : State) (w : WalkState) :
    (s.setWalk w).resetLow = s.resetLow := rfl
@[simp] theorem setWalk_pending (s : State) (w : WalkState) :
    (s.setWalk w).pending = s.pending := rfl
@[simp] theorem setWalk_mgmt (s : State) (w : WalkState) :
    (s.setWalk w).mgmt = s.mgmt := rfl
@[simp] theorem setWalk_boot (s : State) (w : WalkState) :
    (s.setWalk w).boot = s.boot := rfl
@[simp] theorem setWalk_paramRecord (s : State) (w : WalkState) :
    (s.setWalk w).paramRecord = s.paramRecord := rfl
@[simp] theorem setWalk_defaulted (s : State) (w : WalkState) :
    (s.setWalk w).defaulted = s.defaulted := rfl
@[simp] theorem setWalk_clock (s : State) (w : WalkState) :
    (s.setWalk w).clock = s.clock := rfl
@[simp] theorem setWalk_monitor (s : State) (w : WalkState) :
    (s.setWalk w).monitor = s.monitor := rfl
@[simp] theorem setWalk_settings (s : State) (w : WalkState) :
    (s.setWalk w).settings = s.settings := rfl
@[simp] theorem setWalk_tick (s : State) (w : WalkState) :
    (s.setWalk w).tick = s.tick := rfl
@[simp] theorem setWalk_lines (s : State) (w : WalkState) :
    (s.setWalk w).lines = s.lines := rfl
@[simp] theorem setWalk_portS (s : State) (w : WalkState) :
    (s.setWalk w).portS = s.portS := rfl
@[simp] theorem setWalk_portP (s : State) (w : WalkState) :
    (s.setWalk w).portP = s.portP := rfl
@[simp] theorem setWalk_contexts (s : State) (w : WalkState) :
    (s.setWalk w).contexts = s.contexts := rfl
@[simp] theorem setWalk_log (s : State) (w : WalkState) :
    (s.setWalk w).log = s.log := rfl
@[simp] theorem setWalk_locate (s : State) (w : WalkState) :
    (s.setWalk w).locate = s.locate := rfl
@[simp] theorem setWalk_pairing (s : State) (w : WalkState) :
    (s.setWalk w).pairing = s.pairing := rfl
@[simp] theorem setWalk_events (s : State) (w : WalkState) :
    (s.setWalk w).events = s.events := rfl
@[simp] theorem setWalk_faultn (s : State) (w : WalkState) :
    (s.setWalk w).faultn = s.faultn := rfl
@[simp] theorem setWalk_freeDraws (s : State) (w : WalkState) :
    (s.setWalk w).freeDraws = s.freeDraws := rfl
@[simp] theorem setMap_mapAt_same (s : State) (i : Fin 256) (e : Option (Stored MapEntry)) :
    (s.setMap i e).mapAt i = e := by simp [State.mapAt, State.setMap]
theorem setMap_mapAt_ne (s : State) (i j : Fin 256) (e : Option (Stored MapEntry)) (h : i ≠ j) :
    (s.setMap i e).mapAt j = s.mapAt j := by
  have : (i : Nat) ≠ j := fun e => h (Fin.ext e)
  simp [State.mapAt, State.setMap, this]
@[simp] theorem setSource_sourceAt_same (s : State) (i : Fin 128) (e : Option (Stored SourceEntry)) :
    (s.setSource i e).sourceAt i = e := by simp [State.sourceAt, State.setSource]
theorem setSource_sourceAt_ne (s : State) (i j : Fin 128) (e : Option (Stored SourceEntry))
    (h : i ≠ j) : (s.setSource i e).sourceAt j = s.sourceAt j := by
  have : (i : Nat) ≠ j := fun e => h (Fin.ext e)
  simp [State.sourceAt, State.setSource, this]
@[simp] theorem setGroup_group_same (s : State) (i : Fin 16) (e : Option (Stored GroupEntry)) :
    (s.setGroup i e).tables.group[i] = e := by simp [State.setGroup]
theorem setGroup_group_ne (s : State) (i j : Fin 16) (e : Option (Stored GroupEntry)) (h : i ≠ j) :
    (s.setGroup i e).tables.group[j] = s.tables.group[j] := by
  have : (i : Nat) ≠ j := fun e => h (Fin.ext e)
  simp [State.setGroup, this]
@[simp] theorem setSource_mapAt (s : State) (i : Fin 128) (e : Option (Stored SourceEntry)) (j : Fin 256) :
    (s.setSource i e).mapAt j = s.mapAt j := rfl
@[simp] theorem setGroup_mapAt (s : State) (i : Fin 16) (e : Option (Stored GroupEntry)) (j : Fin 256) :
    (s.setGroup i e).mapAt j = s.mapAt j := rfl
@[simp] theorem setMap_sourceAt (s : State) (i : Fin 256) (e : Option (Stored MapEntry)) (j : Fin 128) :
    (s.setMap i e).sourceAt j = s.sourceAt j := rfl
@[simp] theorem setGroup_sourceAt (s : State) (i : Fin 16) (e : Option (Stored GroupEntry)) (j : Fin 128) :
    (s.setGroup i e).sourceAt j = s.sourceAt j := rfl

/-! ### The Pairing Unit (R143) -/

@[simp] theorem setPairing_powered (s : State) (u : PairingUnit) :
    (s.setPairing u).powered = s.powered := rfl
@[simp] theorem setPairing_resetLow (s : State) (u : PairingUnit) :
    (s.setPairing u).resetLow = s.resetLow := rfl
@[simp] theorem setPairing_pending (s : State) (u : PairingUnit) :
    (s.setPairing u).pending = s.pending := rfl
@[simp] theorem setPairing_mgmt (s : State) (u : PairingUnit) :
    (s.setPairing u).mgmt = s.mgmt := rfl
@[simp] theorem setPairing_boot (s : State) (u : PairingUnit) :
    (s.setPairing u).boot = s.boot := rfl
@[simp] theorem setPairing_paramRecord (s : State) (u : PairingUnit) :
    (s.setPairing u).paramRecord = s.paramRecord := rfl
@[simp] theorem setPairing_defaulted (s : State) (u : PairingUnit) :
    (s.setPairing u).defaulted = s.defaulted := rfl
@[simp] theorem setPairing_clock (s : State) (u : PairingUnit) :
    (s.setPairing u).clock = s.clock := rfl
@[simp] theorem setPairing_monitor (s : State) (u : PairingUnit) :
    (s.setPairing u).monitor = s.monitor := rfl
@[simp] theorem setPairing_settings (s : State) (u : PairingUnit) :
    (s.setPairing u).settings = s.settings := rfl
@[simp] theorem setPairing_tick (s : State) (u : PairingUnit) :
    (s.setPairing u).tick = s.tick := rfl
@[simp] theorem setPairing_lines (s : State) (u : PairingUnit) :
    (s.setPairing u).lines = s.lines := rfl
@[simp] theorem setPairing_portS (s : State) (u : PairingUnit) :
    (s.setPairing u).portS = s.portS := rfl
@[simp] theorem setPairing_portP (s : State) (u : PairingUnit) :
    (s.setPairing u).portP = s.portP := rfl
@[simp] theorem setPairing_tables (s : State) (u : PairingUnit) :
    (s.setPairing u).tables = s.tables := rfl
@[simp] theorem setPairing_contexts (s : State) (u : PairingUnit) :
    (s.setPairing u).contexts = s.contexts := rfl
@[simp] theorem setPairing_log (s : State) (u : PairingUnit) :
    (s.setPairing u).log = s.log := rfl
@[simp] theorem setPairing_locate (s : State) (u : PairingUnit) :
    (s.setPairing u).locate = s.locate := rfl
@[simp] theorem setPairing_events (s : State) (u : PairingUnit) :
    (s.setPairing u).events = s.events := rfl
@[simp] theorem setPairing_faultn (s : State) (u : PairingUnit) :
    (s.setPairing u).faultn = s.faultn := rfl
@[simp] theorem setPairing_freeDraws (s : State) (u : PairingUnit) :
    (s.setPairing u).freeDraws = s.freeDraws := rfl
@[simp] theorem setPairing_pairing (s : State) (u : PairingUnit) : (s.setPairing u).pairing = u := rfl
@[simp] theorem modTake_powered (s : State) (n : Nat) (f : Take → Take) :
    (s.modTake n f).powered = s.powered := rfl
@[simp] theorem modTake_resetLow (s : State) (n : Nat) (f : Take → Take) :
    (s.modTake n f).resetLow = s.resetLow := rfl
@[simp] theorem modTake_pending (s : State) (n : Nat) (f : Take → Take) :
    (s.modTake n f).pending = s.pending := rfl
@[simp] theorem modTake_mgmt (s : State) (n : Nat) (f : Take → Take) :
    (s.modTake n f).mgmt = s.mgmt := rfl
@[simp] theorem modTake_boot (s : State) (n : Nat) (f : Take → Take) :
    (s.modTake n f).boot = s.boot := rfl
@[simp] theorem modTake_paramRecord (s : State) (n : Nat) (f : Take → Take) :
    (s.modTake n f).paramRecord = s.paramRecord := rfl
@[simp] theorem modTake_defaulted (s : State) (n : Nat) (f : Take → Take) :
    (s.modTake n f).defaulted = s.defaulted := rfl
@[simp] theorem modTake_clock (s : State) (n : Nat) (f : Take → Take) :
    (s.modTake n f).clock = s.clock := rfl
@[simp] theorem modTake_monitor (s : State) (n : Nat) (f : Take → Take) :
    (s.modTake n f).monitor = s.monitor := rfl
@[simp] theorem modTake_settings (s : State) (n : Nat) (f : Take → Take) :
    (s.modTake n f).settings = s.settings := rfl
@[simp] theorem modTake_tick (s : State) (n : Nat) (f : Take → Take) :
    (s.modTake n f).tick = s.tick := rfl
@[simp] theorem modTake_lines (s : State) (n : Nat) (f : Take → Take) :
    (s.modTake n f).lines = s.lines := rfl
@[simp] theorem modTake_portS (s : State) (n : Nat) (f : Take → Take) :
    (s.modTake n f).portS = s.portS := rfl
@[simp] theorem modTake_portP (s : State) (n : Nat) (f : Take → Take) :
    (s.modTake n f).portP = s.portP := rfl
@[simp] theorem modTake_tables (s : State) (n : Nat) (f : Take → Take) :
    (s.modTake n f).tables = s.tables := rfl
@[simp] theorem modTake_contexts (s : State) (n : Nat) (f : Take → Take) :
    (s.modTake n f).contexts = s.contexts := rfl
@[simp] theorem modTake_log (s : State) (n : Nat) (f : Take → Take) :
    (s.modTake n f).log = s.log := rfl
@[simp] theorem modTake_locate (s : State) (n : Nat) (f : Take → Take) :
    (s.modTake n f).locate = s.locate := rfl
@[simp] theorem modTake_events (s : State) (n : Nat) (f : Take → Take) :
    (s.modTake n f).events = s.events := rfl
@[simp] theorem modTake_faultn (s : State) (n : Nat) (f : Take → Take) :
    (s.modTake n f).faultn = s.faultn := rfl
@[simp] theorem modTake_freeDraws (s : State) (n : Nat) (f : Take → Take) :
    (s.modTake n f).freeDraws = s.freeDraws := rfl
@[simp] theorem removeClap_powered (s : State) (n : Nat) :
    (removeClap n s).powered = s.powered := rfl
@[simp] theorem removeClap_resetLow (s : State) (n : Nat) :
    (removeClap n s).resetLow = s.resetLow := rfl
@[simp] theorem removeClap_pending (s : State) (n : Nat) :
    (removeClap n s).pending = s.pending := rfl
@[simp] theorem removeClap_mgmt (s : State) (n : Nat) :
    (removeClap n s).mgmt = s.mgmt := rfl
@[simp] theorem removeClap_boot (s : State) (n : Nat) :
    (removeClap n s).boot = s.boot := rfl
@[simp] theorem removeClap_paramRecord (s : State) (n : Nat) :
    (removeClap n s).paramRecord = s.paramRecord := rfl
@[simp] theorem removeClap_defaulted (s : State) (n : Nat) :
    (removeClap n s).defaulted = s.defaulted := rfl
@[simp] theorem removeClap_clock (s : State) (n : Nat) :
    (removeClap n s).clock = s.clock := rfl
@[simp] theorem removeClap_monitor (s : State) (n : Nat) :
    (removeClap n s).monitor = s.monitor := rfl
@[simp] theorem removeClap_settings (s : State) (n : Nat) :
    (removeClap n s).settings = s.settings := rfl
@[simp] theorem removeClap_tick (s : State) (n : Nat) :
    (removeClap n s).tick = s.tick := rfl
@[simp] theorem removeClap_lines (s : State) (n : Nat) :
    (removeClap n s).lines = s.lines := rfl
@[simp] theorem removeClap_portS (s : State) (n : Nat) :
    (removeClap n s).portS = s.portS := rfl
@[simp] theorem removeClap_portP (s : State) (n : Nat) :
    (removeClap n s).portP = s.portP := rfl
@[simp] theorem removeClap_tables (s : State) (n : Nat) :
    (removeClap n s).tables = s.tables := rfl
@[simp] theorem removeClap_contexts (s : State) (n : Nat) :
    (removeClap n s).contexts = s.contexts := rfl
@[simp] theorem removeClap_log (s : State) (n : Nat) :
    (removeClap n s).log = s.log := rfl
@[simp] theorem removeClap_locate (s : State) (n : Nat) :
    (removeClap n s).locate = s.locate := rfl
@[simp] theorem removeClap_events (s : State) (n : Nat) :
    (removeClap n s).events = s.events := rfl
@[simp] theorem removeClap_faultn (s : State) (n : Nat) :
    (removeClap n s).faultn = s.faultn := rfl
@[simp] theorem removeClap_freeDraws (s : State) (n : Nat) :
    (removeClap n s).freeDraws = s.freeDraws := rfl
@[simp] theorem addTake_powered (s : State) (t : Take) :
    (addTake t s).powered = s.powered := rfl
@[simp] theorem addTake_resetLow (s : State) (t : Take) :
    (addTake t s).resetLow = s.resetLow := rfl
@[simp] theorem addTake_pending (s : State) (t : Take) :
    (addTake t s).pending = s.pending := rfl
@[simp] theorem addTake_mgmt (s : State) (t : Take) :
    (addTake t s).mgmt = s.mgmt := rfl
@[simp] theorem addTake_boot (s : State) (t : Take) :
    (addTake t s).boot = s.boot := rfl
@[simp] theorem addTake_paramRecord (s : State) (t : Take) :
    (addTake t s).paramRecord = s.paramRecord := rfl
@[simp] theorem addTake_defaulted (s : State) (t : Take) :
    (addTake t s).defaulted = s.defaulted := rfl
@[simp] theorem addTake_clock (s : State) (t : Take) :
    (addTake t s).clock = s.clock := rfl
@[simp] theorem addTake_monitor (s : State) (t : Take) :
    (addTake t s).monitor = s.monitor := rfl
@[simp] theorem addTake_settings (s : State) (t : Take) :
    (addTake t s).settings = s.settings := rfl
@[simp] theorem addTake_tick (s : State) (t : Take) :
    (addTake t s).tick = s.tick := rfl
@[simp] theorem addTake_lines (s : State) (t : Take) :
    (addTake t s).lines = s.lines := rfl
@[simp] theorem addTake_portS (s : State) (t : Take) :
    (addTake t s).portS = s.portS := rfl
@[simp] theorem addTake_portP (s : State) (t : Take) :
    (addTake t s).portP = s.portP := rfl
@[simp] theorem addTake_tables (s : State) (t : Take) :
    (addTake t s).tables = s.tables := rfl
@[simp] theorem addTake_contexts (s : State) (t : Take) :
    (addTake t s).contexts = s.contexts := rfl
@[simp] theorem addTake_log (s : State) (t : Take) :
    (addTake t s).log = s.log := rfl
@[simp] theorem addTake_locate (s : State) (t : Take) :
    (addTake t s).locate = s.locate := rfl
@[simp] theorem addTake_events (s : State) (t : Take) :
    (addTake t s).events = s.events := rfl
@[simp] theorem addTake_faultn (s : State) (t : Take) :
    (addTake t s).faultn = s.faultn := rfl
@[simp] theorem addTake_freeDraws (s : State) (t : Take) :
    (addTake t s).freeDraws = s.freeDraws := rfl

/-! ### Event classes (R186, R193) -/

@[simp] theorem evalFault_powered (s : State) :
    (s.evalFault).powered = s.powered := rfl
@[simp] theorem evalFault_resetLow (s : State) :
    (s.evalFault).resetLow = s.resetLow := rfl
@[simp] theorem evalFault_pending (s : State) :
    (s.evalFault).pending = s.pending := rfl
@[simp] theorem evalFault_mgmt (s : State) :
    (s.evalFault).mgmt = s.mgmt := rfl
@[simp] theorem evalFault_boot (s : State) :
    (s.evalFault).boot = s.boot := rfl
@[simp] theorem evalFault_paramRecord (s : State) :
    (s.evalFault).paramRecord = s.paramRecord := rfl
@[simp] theorem evalFault_defaulted (s : State) :
    (s.evalFault).defaulted = s.defaulted := rfl
@[simp] theorem evalFault_clock (s : State) :
    (s.evalFault).clock = s.clock := rfl
@[simp] theorem evalFault_monitor (s : State) :
    (s.evalFault).monitor = s.monitor := rfl
@[simp] theorem evalFault_settings (s : State) :
    (s.evalFault).settings = s.settings := rfl
@[simp] theorem evalFault_tick (s : State) :
    (s.evalFault).tick = s.tick := rfl
@[simp] theorem evalFault_lines (s : State) :
    (s.evalFault).lines = s.lines := rfl
@[simp] theorem evalFault_portS (s : State) :
    (s.evalFault).portS = s.portS := rfl
@[simp] theorem evalFault_portP (s : State) :
    (s.evalFault).portP = s.portP := rfl
@[simp] theorem evalFault_tables (s : State) :
    (s.evalFault).tables = s.tables := rfl
@[simp] theorem evalFault_contexts (s : State) :
    (s.evalFault).contexts = s.contexts := rfl
@[simp] theorem evalFault_log (s : State) :
    (s.evalFault).log = s.log := rfl
@[simp] theorem evalFault_locate (s : State) :
    (s.evalFault).locate = s.locate := rfl
@[simp] theorem evalFault_pairing (s : State) :
    (s.evalFault).pairing = s.pairing := rfl
@[simp] theorem evalFault_events (s : State) :
    (s.evalFault).events = s.events := rfl
@[simp] theorem evalFault_freeDraws (s : State) :
    (s.evalFault).freeDraws = s.freeDraws := rfl
@[simp] theorem recordEvent_powered (s : State) (c : EventClass) (d : List Byte) :
    (recordEvent c d s).powered = s.powered := rfl
@[simp] theorem recordEvent_resetLow (s : State) (c : EventClass) (d : List Byte) :
    (recordEvent c d s).resetLow = s.resetLow := rfl
@[simp] theorem recordEvent_pending (s : State) (c : EventClass) (d : List Byte) :
    (recordEvent c d s).pending = s.pending := rfl
@[simp] theorem recordEvent_mgmt (s : State) (c : EventClass) (d : List Byte) :
    (recordEvent c d s).mgmt = s.mgmt := rfl
@[simp] theorem recordEvent_boot (s : State) (c : EventClass) (d : List Byte) :
    (recordEvent c d s).boot = s.boot := rfl
@[simp] theorem recordEvent_paramRecord (s : State) (c : EventClass) (d : List Byte) :
    (recordEvent c d s).paramRecord = s.paramRecord := rfl
@[simp] theorem recordEvent_defaulted (s : State) (c : EventClass) (d : List Byte) :
    (recordEvent c d s).defaulted = s.defaulted := rfl
@[simp] theorem recordEvent_clock (s : State) (c : EventClass) (d : List Byte) :
    (recordEvent c d s).clock = s.clock := rfl
@[simp] theorem recordEvent_monitor (s : State) (c : EventClass) (d : List Byte) :
    (recordEvent c d s).monitor = s.monitor := rfl
@[simp] theorem recordEvent_settings (s : State) (c : EventClass) (d : List Byte) :
    (recordEvent c d s).settings = s.settings := rfl
@[simp] theorem recordEvent_tick (s : State) (c : EventClass) (d : List Byte) :
    (recordEvent c d s).tick = s.tick := rfl
@[simp] theorem recordEvent_lines (s : State) (c : EventClass) (d : List Byte) :
    (recordEvent c d s).lines = s.lines := rfl
@[simp] theorem recordEvent_portS (s : State) (c : EventClass) (d : List Byte) :
    (recordEvent c d s).portS = s.portS := rfl
@[simp] theorem recordEvent_portP (s : State) (c : EventClass) (d : List Byte) :
    (recordEvent c d s).portP = s.portP := rfl
@[simp] theorem recordEvent_tables (s : State) (c : EventClass) (d : List Byte) :
    (recordEvent c d s).tables = s.tables := rfl
@[simp] theorem recordEvent_contexts (s : State) (c : EventClass) (d : List Byte) :
    (recordEvent c d s).contexts = s.contexts := rfl
@[simp] theorem recordEvent_log (s : State) (c : EventClass) (d : List Byte) :
    (recordEvent c d s).log = s.log := rfl
@[simp] theorem recordEvent_locate (s : State) (c : EventClass) (d : List Byte) :
    (recordEvent c d s).locate = s.locate := rfl
@[simp] theorem recordEvent_pairing (s : State) (c : EventClass) (d : List Byte) :
    (recordEvent c d s).pairing = s.pairing := rfl
@[simp] theorem recordEvent_freeDraws (s : State) (c : EventClass) (d : List Byte) :
    (recordEvent c d s).freeDraws = s.freeDraws := rfl

/-! ### Requests (R131, R173) -/

@[simp] theorem answer_powered (s : State) (r : Request) (st : ReplyStatus) (d : List (List Byte)) :
    (s.answer r st d).powered = s.powered := rfl
@[simp] theorem answer_resetLow (s : State) (r : Request) (st : ReplyStatus) (d : List (List Byte)) :
    (s.answer r st d).resetLow = s.resetLow := rfl
@[simp] theorem answer_pending (s : State) (r : Request) (st : ReplyStatus) (d : List (List Byte)) :
    (s.answer r st d).pending = s.pending := rfl
@[simp] theorem answer_boot (s : State) (r : Request) (st : ReplyStatus) (d : List (List Byte)) :
    (s.answer r st d).boot = s.boot := rfl
@[simp] theorem answer_paramRecord (s : State) (r : Request) (st : ReplyStatus) (d : List (List Byte)) :
    (s.answer r st d).paramRecord = s.paramRecord := rfl
@[simp] theorem answer_defaulted (s : State) (r : Request) (st : ReplyStatus) (d : List (List Byte)) :
    (s.answer r st d).defaulted = s.defaulted := rfl
@[simp] theorem answer_clock (s : State) (r : Request) (st : ReplyStatus) (d : List (List Byte)) :
    (s.answer r st d).clock = s.clock := rfl
@[simp] theorem answer_monitor (s : State) (r : Request) (st : ReplyStatus) (d : List (List Byte)) :
    (s.answer r st d).monitor = s.monitor := rfl
@[simp] theorem answer_settings (s : State) (r : Request) (st : ReplyStatus) (d : List (List Byte)) :
    (s.answer r st d).settings = s.settings := rfl
@[simp] theorem answer_tick (s : State) (r : Request) (st : ReplyStatus) (d : List (List Byte)) :
    (s.answer r st d).tick = s.tick := rfl
@[simp] theorem answer_lines (s : State) (r : Request) (st : ReplyStatus) (d : List (List Byte)) :
    (s.answer r st d).lines = s.lines := rfl
@[simp] theorem answer_portS (s : State) (r : Request) (st : ReplyStatus) (d : List (List Byte)) :
    (s.answer r st d).portS = s.portS := rfl
@[simp] theorem answer_portP (s : State) (r : Request) (st : ReplyStatus) (d : List (List Byte)) :
    (s.answer r st d).portP = s.portP := rfl
@[simp] theorem answer_tables (s : State) (r : Request) (st : ReplyStatus) (d : List (List Byte)) :
    (s.answer r st d).tables = s.tables := rfl
@[simp] theorem answer_contexts (s : State) (r : Request) (st : ReplyStatus) (d : List (List Byte)) :
    (s.answer r st d).contexts = s.contexts := rfl
@[simp] theorem answer_log (s : State) (r : Request) (st : ReplyStatus) (d : List (List Byte)) :
    (s.answer r st d).log = s.log := rfl
@[simp] theorem answer_locate (s : State) (r : Request) (st : ReplyStatus) (d : List (List Byte)) :
    (s.answer r st d).locate = s.locate := rfl
@[simp] theorem answer_pairing (s : State) (r : Request) (st : ReplyStatus) (d : List (List Byte)) :
    (s.answer r st d).pairing = s.pairing := rfl
@[simp] theorem answer_events (s : State) (r : Request) (st : ReplyStatus) (d : List (List Byte)) :
    (s.answer r st d).events = s.events := rfl
@[simp] theorem answer_faultn (s : State) (r : Request) (st : ReplyStatus) (d : List (List Byte)) :
    (s.answer r st d).faultn = s.faultn := rfl
@[simp] theorem answer_freeDraws (s : State) (r : Request) (st : ReplyStatus) (d : List (List Byte)) :
    (s.answer r st d).freeDraws = s.freeDraws := rfl
@[simp] theorem serve_powered (s : State) (r : Request) (st : ReplyStatus) (d : List (List Byte)) :
    (s.serve r st d).powered = s.powered := rfl
@[simp] theorem serve_resetLow (s : State) (r : Request) (st : ReplyStatus) (d : List (List Byte)) :
    (s.serve r st d).resetLow = s.resetLow := rfl
@[simp] theorem serve_pending (s : State) (r : Request) (st : ReplyStatus) (d : List (List Byte)) :
    (s.serve r st d).pending = s.pending := rfl
@[simp] theorem serve_mgmt (s : State) (r : Request) (st : ReplyStatus) (d : List (List Byte)) :
    (s.serve r st d).mgmt = s.mgmt := rfl
@[simp] theorem serve_boot (s : State) (r : Request) (st : ReplyStatus) (d : List (List Byte)) :
    (s.serve r st d).boot = s.boot := rfl
@[simp] theorem serve_paramRecord (s : State) (r : Request) (st : ReplyStatus) (d : List (List Byte)) :
    (s.serve r st d).paramRecord = s.paramRecord := rfl
@[simp] theorem serve_defaulted (s : State) (r : Request) (st : ReplyStatus) (d : List (List Byte)) :
    (s.serve r st d).defaulted = s.defaulted := rfl
@[simp] theorem serve_clock (s : State) (r : Request) (st : ReplyStatus) (d : List (List Byte)) :
    (s.serve r st d).clock = s.clock := rfl
@[simp] theorem serve_monitor (s : State) (r : Request) (st : ReplyStatus) (d : List (List Byte)) :
    (s.serve r st d).monitor = s.monitor := rfl
@[simp] theorem serve_settings (s : State) (r : Request) (st : ReplyStatus) (d : List (List Byte)) :
    (s.serve r st d).settings = s.settings := rfl
@[simp] theorem serve_tick (s : State) (r : Request) (st : ReplyStatus) (d : List (List Byte)) :
    (s.serve r st d).tick = s.tick := rfl
@[simp] theorem serve_lines (s : State) (r : Request) (st : ReplyStatus) (d : List (List Byte)) :
    (s.serve r st d).lines = s.lines := rfl
@[simp] theorem serve_portS (s : State) (r : Request) (st : ReplyStatus) (d : List (List Byte)) :
    (s.serve r st d).portS = s.portS := rfl
@[simp] theorem serve_portP (s : State) (r : Request) (st : ReplyStatus) (d : List (List Byte)) :
    (s.serve r st d).portP = s.portP := rfl
@[simp] theorem serve_tables (s : State) (r : Request) (st : ReplyStatus) (d : List (List Byte)) :
    (s.serve r st d).tables = s.tables := rfl
@[simp] theorem serve_contexts (s : State) (r : Request) (st : ReplyStatus) (d : List (List Byte)) :
    (s.serve r st d).contexts = s.contexts := rfl
@[simp] theorem serve_log (s : State) (r : Request) (st : ReplyStatus) (d : List (List Byte)) :
    (s.serve r st d).log = s.log := rfl
@[simp] theorem serve_pairing (s : State) (r : Request) (st : ReplyStatus) (d : List (List Byte)) :
    (s.serve r st d).pairing = s.pairing := rfl
@[simp] theorem serve_events (s : State) (r : Request) (st : ReplyStatus) (d : List (List Byte)) :
    (s.serve r st d).events = s.events := rfl
@[simp] theorem serve_faultn (s : State) (r : Request) (st : ReplyStatus) (d : List (List Byte)) :
    (s.serve r st d).faultn = s.faultn := rfl
@[simp] theorem serve_freeDraws (s : State) (r : Request) (st : ReplyStatus) (d : List (List Byte)) :
    (s.serve r st d).freeDraws = s.freeDraws := rfl

/-! ### Reads that other updates do not touch -/

@[simp] theorem setPort_ctx (s : State) (p : Port) (x : PortState) (i : Fin 128) :
    (s.setPort p x).ctx i = s.ctx i := by cases p <;> rfl
@[simp] theorem setPort_mapAt (s : State) (p : Port) (x : PortState) (i : Fin 256) :
    (s.setPort p x).mapAt i = s.mapAt i := by cases p <;> rfl
@[simp] theorem setPort_sourceAt (s : State) (p : Port) (x : PortState) (i : Fin 128) :
    (s.setPort p x).sourceAt i = s.sourceAt i := by cases p <;> rfl
@[simp] theorem setPort_lookup (s : State) (p : Port) (x : PortState) (k : Key) :
    (s.setPort p x).lookup k = s.lookup k := by cases p <;> rfl
@[simp] theorem setPort_inUse (s : State) (p : Port) (x : PortState) (n : Nat) :
    (s.setPort p x).inUse n = s.inUse n := by cases p <;> rfl
@[simp] theorem countAt_ctx (s : State) (p : Port) (f : Counters → Counters) (i : Fin 128) :
    (s.countAt p f).ctx i = s.ctx i := by cases p <;> rfl
@[simp] theorem countAt_mapAt (s : State) (p : Port) (f : Counters → Counters) (i : Fin 256) :
    (s.countAt p f).mapAt i = s.mapAt i := by cases p <;> rfl
@[simp] theorem countAt_sourceAt (s : State) (p : Port) (f : Counters → Counters) (i : Fin 128) :
    (s.countAt p f).sourceAt i = s.sourceAt i := by cases p <;> rfl
@[simp] theorem countAt_lookup (s : State) (p : Port) (f : Counters → Counters) (k : Key) :
    (s.countAt p f).lookup k = s.lookup k := by cases p <;> rfl
@[simp] theorem countAt_inUse (s : State) (p : Port) (f : Counters → Counters) (n : Nat) :
    (s.countAt p f).inUse n = s.inUse n := by cases p <;> rfl
@[simp] theorem pushCell_ctx (s : State) (p : Port) (c : Cell) (i : Fin 128) :
    (s.pushCell p c).ctx i = s.ctx i := by cases p <;> rfl
@[simp] theorem pushCell_mapAt (s : State) (p : Port) (c : Cell) (i : Fin 256) :
    (s.pushCell p c).mapAt i = s.mapAt i := by cases p <;> rfl
@[simp] theorem pushCell_sourceAt (s : State) (p : Port) (c : Cell) (i : Fin 128) :
    (s.pushCell p c).sourceAt i = s.sourceAt i := by cases p <;> rfl
@[simp] theorem pushCell_lookup (s : State) (p : Port) (c : Cell) (k : Key) :
    (s.pushCell p c).lookup k = s.lookup k := by cases p <;> rfl
@[simp] theorem pushCell_inUse (s : State) (p : Port) (c : Cell) (n : Nat) :
    (s.pushCell p c).inUse n = s.inUse n := by cases p <;> rfl
@[simp] theorem pushMade_ctx (s : State) (p : Port) (dest : Byte) (kind : Nat) (d : List Byte) (i : Fin 128) :
    (s.pushMade p dest kind d).ctx i = s.ctx i := by cases p <;> rfl
@[simp] theorem pushMade_mapAt (s : State) (p : Port) (dest : Byte) (kind : Nat) (d : List Byte) (i : Fin 256) :
    (s.pushMade p dest kind d).mapAt i = s.mapAt i := by cases p <;> rfl
@[simp] theorem pushMade_sourceAt (s : State) (p : Port) (dest : Byte) (kind : Nat) (d : List Byte) (i : Fin 128) :
    (s.pushMade p dest kind d).sourceAt i = s.sourceAt i := by cases p <;> rfl
@[simp] theorem pushMade_lookup (s : State) (p : Port) (dest : Byte) (kind : Nat) (d : List Byte) (k : Key) :
    (s.pushMade p dest kind d).lookup k = s.lookup k := by cases p <;> rfl
@[simp] theorem pushMade_inUse (s : State) (p : Port) (dest : Byte) (kind : Nat) (d : List Byte) (n : Nat) :
    (s.pushMade p dest kind d).inUse n = s.inUse n := by cases p <;> rfl
@[simp] theorem received_ctx (s : State) (p : Port) (f : Counters → Counters) (i : Fin 128) :
    (s.received p f).ctx i = s.ctx i := by cases p <;> rfl
@[simp] theorem received_mapAt (s : State) (p : Port) (f : Counters → Counters) (i : Fin 256) :
    (s.received p f).mapAt i = s.mapAt i := by cases p <;> rfl
@[simp] theorem received_sourceAt (s : State) (p : Port) (f : Counters → Counters) (i : Fin 128) :
    (s.received p f).sourceAt i = s.sourceAt i := by cases p <;> rfl
@[simp] theorem received_lookup (s : State) (p : Port) (f : Counters → Counters) (k : Key) :
    (s.received p f).lookup k = s.lookup k := by cases p <;> rfl
@[simp] theorem received_inUse (s : State) (p : Port) (f : Counters → Counters) (n : Nat) :
    (s.received p f).inUse n = s.inUse n := by cases p <;> rfl
@[simp] theorem setCtx_inUse (s : State) (i : Fin 128) (c : Context) (n : Nat) :
    (s.setCtx i c).inUse n = s.inUse n := rfl
@[simp] theorem recordEvent_inUse (s : State) (c : EventClass) (d : List Byte) (n : Nat) :
    (recordEvent c d s).inUse n = s.inUse n := rfl
@[simp] theorem recordEvent_ctx (s : State) (c : EventClass) (d : List Byte) (i : Fin 128) :
    (recordEvent c d s).ctx i = s.ctx i := rfl
@[simp] theorem recordEvent_port (s : State) (c : EventClass) (d : List Byte) (p : Port) :
    (recordEvent c d s).port p = s.port p := by cases p <;> rfl
@[simp] theorem setCtx_port (s : State) (i : Fin 128) (c : Context) (p : Port) :
    (s.setCtx i c).port p = s.port p := by cases p <;> rfl
@[simp] theorem setPairing_ctx (s : State) (u : PairingUnit) (i : Fin 128) :
    (s.setPairing u).ctx i = s.ctx i := rfl
@[simp] theorem setPairing_groupAt (s : State) (u : PairingUnit) (g : Nat) :
    (s.setPairing u).groupAt g = s.groupAt g := rfl
@[simp] theorem modTake_ctx (s : State) (n : Nat) (f : Take → Take) (i : Fin 128) :
    (s.modTake n f).ctx i = s.ctx i := rfl
@[simp] theorem modTake_groupAt (s : State) (n : Nat) (f : Take → Take) (g : Nat) :
    (s.modTake n f).groupAt g = s.groupAt g := rfl

end Sys2Proof.Laws
end

