-- ==== Sys2Proof/Laws/Events.lean ====
section
/-! SUPPORT. What raising an event and joining an egress queue can do: the event classes, FAULTn and the ports
change, and nothing else. -/

set_option Elab.async false

namespace Sys2Proof.Laws

open Sys2Proof.Machine

/-- The second state is the first but for the event classes, FAULTn and the ports. -/
def OutputsOnly (s t : State) : Prop :=
  t = { s with events := t.events, faultn := t.faultn, portS := t.portS, portP := t.portP }

theorem OutputsOnly.refl (s : State) : OutputsOnly s s := rfl

theorem OutputsOnly.trans {s t u : State} (h : OutputsOnly s t) (g : OutputsOnly t u) :
    OutputsOnly s u := by
  unfold OutputsOnly at *
  rw [g, h]

theorem setPort_outputs (s : State) (p : Port) (x : PortState) : OutputsOnly s (s.setPort p x) := by
  cases p <;> rfl

theorem countAt_outputs (s : State) (p : Port) (f : Counters → Counters) :
    OutputsOnly s (s.countAt p f) := setPort_outputs s p _

theorem pushCell_outputs (s : State) (p : Port) (c : Cell) : OutputsOnly s (s.pushCell p c) :=
  setPort_outputs s p _

theorem pushMade_outputs (s : State) (p : Port) (dest : Byte) (kind : Nat) (d : List Byte) :
    OutputsOnly s (s.pushMade p dest kind d) := setPort_outputs s p _

theorem recordEvent_outputs (s : State) (c : EventClass) (d : List Byte) :
    OutputsOnly s (recordEvent c d s) := rfl

theorem dropNotice_outputs (s : State) : OutputsOnly s (dropNotice s) := countAt_outputs s _ _

theorem raiseNoticeDrop_outputs (s : State) : OutputsOnly s (raiseNoticeDrop s) := by
  unfold raiseNoticeDrop
  dsimp only
  split
  · exact ((recordEvent_outputs s _ _).trans (dropNotice_outputs _)).trans (recordEvent_outputs _ _ _)
  · exact recordEvent_outputs s _ _

theorem sendNotice_outputs (s : State) (c : EventClass) (d : List Byte) :
    OutputsOnly s (sendNotice c d s) := by
  unfold sendNotice
  split
  · exact pushMade_outputs s _ _ _ _
  · exact (dropNotice_outputs s).trans (raiseNoticeDrop_outputs _)

/-- Raising an event touches only outputs (R186, R188, R189). -/
theorem raise_outputs (s : State) (c : EventClass) (d : List Byte) : OutputsOnly s (raise c d s) := by
  unfold raise
  dsimp only
  split
  · exact (recordEvent_outputs s c d).trans (sendNotice_outputs _ _ _)
  · exact recordEvent_outputs s c d

/-- A forwarded cell touches only outputs (R37, R40). -/
theorem joinForwarded_outputs (s : State) (p : Port) (c : Cell) :
    OutputsOnly s (joinForwarded p c s) := by
  unfold joinForwarded
  split
  · exact (pushCell_outputs s p c).trans (countAt_outputs _ _ _)
  · exact (countAt_outputs s p _).trans (raise_outputs _ _ _)

/-- A reply cell touches only outputs (R36, R40). -/
theorem joinReply_outputs (s : State) (p : Port) (dest : Byte) (d : List Byte) :
    OutputsOnly s (joinReply p dest d s) := by
  unfold joinReply
  split
  · exact pushMade_outputs s _ _ _ _
  · exact (countAt_outputs s p _).trans (raise_outputs _ _ _)

/-- A tick cell touches only outputs (R18, R40). -/
theorem joinTick_outputs (s : State) (p : Port) (d : List Byte) : OutputsOnly s (joinTick p d s) := by
  unfold joinTick
  split
  · exact pushMade_outputs s _ _ _ _
  · exact (countAt_outputs s p _).trans (raise_outputs _ _ _)

/-- The cells of one reply touch only outputs (R175). -/
theorem joinReplies_outputs (p : Port) (dest : Byte) (ds : List (List Byte)) (s : State) :
    OutputsOnly s (joinReplies p dest ds s) := by
  unfold joinReplies
  induction ds generalizing s with
  | nil => exact OutputsOnly.refl s
  | cons d ds ih => exact (joinReply_outputs s p dest d).trans (ih _)

/-- A list of events raised one after the other touches only outputs (R183). -/
theorem raiseDefaulted_outputs (codes : List Nat) (s : State) :
    OutputsOnly s (raiseDefaulted codes s) := by
  unfold raiseDefaulted
  induction codes generalizing s with
  | nil => exact OutputsOnly.refl s
  | cons c cs ih => exact (raise_outputs s _ _).trans (ih _)

/-! ### Field by field -/

theorem OutputsOnly.powered {s t : State} (h : OutputsOnly s t) : t.powered = s.powered := by rw [h]
theorem OutputsOnly.resetLow {s t : State} (h : OutputsOnly s t) : t.resetLow = s.resetLow := by rw [h]
theorem OutputsOnly.pending {s t : State} (h : OutputsOnly s t) : t.pending = s.pending := by rw [h]
theorem OutputsOnly.mgmt {s t : State} (h : OutputsOnly s t) : t.mgmt = s.mgmt := by rw [h]
theorem OutputsOnly.boot {s t : State} (h : OutputsOnly s t) : t.boot = s.boot := by rw [h]
theorem OutputsOnly.paramRecord {s t : State} (h : OutputsOnly s t) : t.paramRecord = s.paramRecord := by rw [h]
theorem OutputsOnly.defaulted {s t : State} (h : OutputsOnly s t) : t.defaulted = s.defaulted := by rw [h]
theorem OutputsOnly.clock {s t : State} (h : OutputsOnly s t) : t.clock = s.clock := by rw [h]
theorem OutputsOnly.monitor {s t : State} (h : OutputsOnly s t) : t.monitor = s.monitor := by rw [h]
theorem OutputsOnly.settings {s t : State} (h : OutputsOnly s t) : t.settings = s.settings := by rw [h]
theorem OutputsOnly.tick {s t : State} (h : OutputsOnly s t) : t.tick = s.tick := by rw [h]
theorem OutputsOnly.lines {s t : State} (h : OutputsOnly s t) : t.lines = s.lines := by rw [h]
theorem OutputsOnly.tables {s t : State} (h : OutputsOnly s t) : t.tables = s.tables := by rw [h]
theorem OutputsOnly.contexts {s t : State} (h : OutputsOnly s t) : t.contexts = s.contexts := by rw [h]
theorem OutputsOnly.log {s t : State} (h : OutputsOnly s t) : t.log = s.log := by rw [h]
theorem OutputsOnly.locate {s t : State} (h : OutputsOnly s t) : t.locate = s.locate := by rw [h]
theorem OutputsOnly.pairing {s t : State} (h : OutputsOnly s t) : t.pairing = s.pairing := by rw [h]
theorem OutputsOnly.freeDraws {s t : State} (h : OutputsOnly s t) : t.freeDraws = s.freeDraws := by rw [h]
@[simp] theorem raise_powered (s : State) (c : EventClass) (d : List Byte) : (raise c d s).powered = s.powered :=
  (raise_outputs s c d).powered
@[simp] theorem raise_resetLow (s : State) (c : EventClass) (d : List Byte) : (raise c d s).resetLow = s.resetLow :=
  (raise_outputs s c d).resetLow
@[simp] theorem raise_pending (s : State) (c : EventClass) (d : List Byte) : (raise c d s).pending = s.pending :=
  (raise_outputs s c d).pending
@[simp] theorem raise_mgmt (s : State) (c : EventClass) (d : List Byte) : (raise c d s).mgmt = s.mgmt :=
  (raise_outputs s c d).mgmt
@[simp] theorem raise_boot (s : State) (c : EventClass) (d : List Byte) : (raise c d s).boot = s.boot :=
  (raise_outputs s c d).boot
@[simp] theorem raise_paramRecord (s : State) (c : EventClass) (d : List Byte) : (raise c d s).paramRecord = s.paramRecord :=
  (raise_outputs s c d).paramRecord
@[simp] theorem raise_defaulted (s : State) (c : EventClass) (d : List Byte) : (raise c d s).defaulted = s.defaulted :=
  (raise_outputs s c d).defaulted
@[simp] theorem raise_clock (s : State) (c : EventClass) (d : List Byte) : (raise c d s).clock = s.clock :=
  (raise_outputs s c d).clock
@[simp] theorem raise_monitor (s : State) (c : EventClass) (d : List Byte) : (raise c d s).monitor = s.monitor :=
  (raise_outputs s c d).monitor
@[simp] theorem raise_settings (s : State) (c : EventClass) (d : List Byte) : (raise c d s).settings = s.settings :=
  (raise_outputs s c d).settings
@[simp] theorem raise_tick (s : State) (c : EventClass) (d : List Byte) : (raise c d s).tick = s.tick :=
  (raise_outputs s c d).tick
@[simp] theorem raise_lines (s : State) (c : EventClass) (d : List Byte) : (raise c d s).lines = s.lines :=
  (raise_outputs s c d).lines
@[simp] theorem raise_tables (s : State) (c : EventClass) (d : List Byte) : (raise c d s).tables = s.tables :=
  (raise_outputs s c d).tables
@[simp] theorem raise_contexts (s : State) (c : EventClass) (d : List Byte) : (raise c d s).contexts = s.contexts :=
  (raise_outputs s c d).contexts
@[simp] theorem raise_log (s : State) (c : EventClass) (d : List Byte) : (raise c d s).log = s.log :=
  (raise_outputs s c d).log
@[simp] theorem raise_locate (s : State) (c : EventClass) (d : List Byte) : (raise c d s).locate = s.locate :=
  (raise_outputs s c d).locate
@[simp] theorem raise_pairing (s : State) (c : EventClass) (d : List Byte) : (raise c d s).pairing = s.pairing :=
  (raise_outputs s c d).pairing
@[simp] theorem raise_freeDraws (s : State) (c : EventClass) (d : List Byte) : (raise c d s).freeDraws = s.freeDraws :=
  (raise_outputs s c d).freeDraws
@[simp] theorem joinForwarded_powered (s : State) (p : Port) (c : Cell) :
    (joinForwarded p c s).powered = s.powered := (joinForwarded_outputs s p c).powered
@[simp] theorem joinForwarded_resetLow (s : State) (p : Port) (c : Cell) :
    (joinForwarded p c s).resetLow = s.resetLow := (joinForwarded_outputs s p c).resetLow
@[simp] theorem joinForwarded_pending (s : State) (p : Port) (c : Cell) :
    (joinForwarded p c s).pending = s.pending := (joinForwarded_outputs s p c).pending
@[simp] theorem joinForwarded_mgmt (s : State) (p : Port) (c : Cell) :
    (joinForwarded p c s).mgmt = s.mgmt := (joinForwarded_outputs s p c).mgmt
@[simp] theorem joinForwarded_boot (s : State) (p : Port) (c : Cell) :
    (joinForwarded p c s).boot = s.boot := (joinForwarded_outputs s p c).boot
@[simp] theorem joinForwarded_paramRecord (s : State) (p : Port) (c : Cell) :
    (joinForwarded p c s).paramRecord = s.paramRecord := (joinForwarded_outputs s p c).paramRecord
@[simp] theorem joinForwarded_defaulted (s : State) (p : Port) (c : Cell) :
    (joinForwarded p c s).defaulted = s.defaulted := (joinForwarded_outputs s p c).defaulted
@[simp] theorem joinForwarded_clock (s : State) (p : Port) (c : Cell) :
    (joinForwarded p c s).clock = s.clock := (joinForwarded_outputs s p c).clock
@[simp] theorem joinForwarded_monitor (s : State) (p : Port) (c : Cell) :
    (joinForwarded p c s).monitor = s.monitor := (joinForwarded_outputs s p c).monitor
@[simp] theorem joinForwarded_settings (s : State) (p : Port) (c : Cell) :
    (joinForwarded p c s).settings = s.settings := (joinForwarded_outputs s p c).settings
@[simp] theorem joinForwarded_tick (s : State) (p : Port) (c : Cell) :
    (joinForwarded p c s).tick = s.tick := (joinForwarded_outputs s p c).tick
@[simp] theorem joinForwarded_lines (s : State) (p : Port) (c : Cell) :
    (joinForwarded p c s).lines = s.lines := (joinForwarded_outputs s p c).lines
@[simp] theorem joinForwarded_tables (s : State) (p : Port) (c : Cell) :
    (joinForwarded p c s).tables = s.tables := (joinForwarded_outputs s p c).tables
@[simp] theorem joinForwarded_contexts (s : State) (p : Port) (c : Cell) :
    (joinForwarded p c s).contexts = s.contexts := (joinForwarded_outputs s p c).contexts
@[simp] theorem joinForwarded_log (s : State) (p : Port) (c : Cell) :
    (joinForwarded p c s).log = s.log := (joinForwarded_outputs s p c).log
@[simp] theorem joinForwarded_locate (s : State) (p : Port) (c : Cell) :
    (joinForwarded p c s).locate = s.locate := (joinForwarded_outputs s p c).locate
@[simp] theorem joinForwarded_pairing (s : State) (p : Port) (c : Cell) :
    (joinForwarded p c s).pairing = s.pairing := (joinForwarded_outputs s p c).pairing
@[simp] theorem joinForwarded_freeDraws (s : State) (p : Port) (c : Cell) :
    (joinForwarded p c s).freeDraws = s.freeDraws := (joinForwarded_outputs s p c).freeDraws
@[simp] theorem joinReply_powered (s : State) (p : Port) (dest : Byte) (d : List Byte) :
    (joinReply p dest d s).powered = s.powered := (joinReply_outputs s p dest d).powered
@[simp] theorem joinReply_resetLow (s : State) (p : Port) (dest : Byte) (d : List Byte) :
    (joinReply p dest d s).resetLow = s.resetLow := (joinReply_outputs s p dest d).resetLow
@[simp] theorem joinReply_pending (s : State) (p : Port) (dest : Byte) (d : List Byte) :
    (joinReply p dest d s).pending = s.pending := (joinReply_outputs s p dest d).pending
@[simp] theorem joinReply_mgmt (s : State) (p : Port) (dest : Byte) (d : List Byte) :
    (joinReply p dest d s).mgmt = s.mgmt := (joinReply_outputs s p dest d).mgmt
@[simp] theorem joinReply_boot (s : State) (p : Port) (dest : Byte) (d : List Byte) :
    (joinReply p dest d s).boot = s.boot := (joinReply_outputs s p dest d).boot
@[simp] theorem joinReply_paramRecord (s : State) (p : Port) (dest : Byte) (d : List Byte) :
    (joinReply p dest d s).paramRecord = s.paramRecord := (joinReply_outputs s p dest d).paramRecord
@[simp] theorem joinReply_defaulted (s : State) (p : Port) (dest : Byte) (d : List Byte) :
    (joinReply p dest d s).defaulted = s.defaulted := (joinReply_outputs s p dest d).defaulted
@[simp] theorem joinReply_clock (s : State) (p : Port) (dest : Byte) (d : List Byte) :
    (joinReply p dest d s).clock = s.clock := (joinReply_outputs s p dest d).clock
@[simp] theorem joinReply_monitor (s : State) (p : Port) (dest : Byte) (d : List Byte) :
    (joinReply p dest d s).monitor = s.monitor := (joinReply_outputs s p dest d).monitor
@[simp] theorem joinReply_settings (s : State) (p : Port) (dest : Byte) (d : List Byte) :
    (joinReply p dest d s).settings = s.settings := (joinReply_outputs s p dest d).settings
@[simp] theorem joinReply_tick (s : State) (p : Port) (dest : Byte) (d : List Byte) :
    (joinReply p dest d s).tick = s.tick := (joinReply_outputs s p dest d).tick
@[simp] theorem joinReply_lines (s : State) (p : Port) (dest : Byte) (d : List Byte) :
    (joinReply p dest d s).lines = s.lines := (joinReply_outputs s p dest d).lines
@[simp] theorem joinReply_tables (s : State) (p : Port) (dest : Byte) (d : List Byte) :
    (joinReply p dest d s).tables = s.tables := (joinReply_outputs s p dest d).tables
@[simp] theorem joinReply_contexts (s : State) (p : Port) (dest : Byte) (d : List Byte) :
    (joinReply p dest d s).contexts = s.contexts := (joinReply_outputs s p dest d).contexts
@[simp] theorem joinReply_log (s : State) (p : Port) (dest : Byte) (d : List Byte) :
    (joinReply p dest d s).log = s.log := (joinReply_outputs s p dest d).log
@[simp] theorem joinReply_locate (s : State) (p : Port) (dest : Byte) (d : List Byte) :
    (joinReply p dest d s).locate = s.locate := (joinReply_outputs s p dest d).locate
@[simp] theorem joinReply_pairing (s : State) (p : Port) (dest : Byte) (d : List Byte) :
    (joinReply p dest d s).pairing = s.pairing := (joinReply_outputs s p dest d).pairing
@[simp] theorem joinReply_freeDraws (s : State) (p : Port) (dest : Byte) (d : List Byte) :
    (joinReply p dest d s).freeDraws = s.freeDraws := (joinReply_outputs s p dest d).freeDraws
@[simp] theorem joinTick_powered (s : State) (p : Port) (d : List Byte) :
    (joinTick p d s).powered = s.powered := (joinTick_outputs s p d).powered
@[simp] theorem joinTick_resetLow (s : State) (p : Port) (d : List Byte) :
    (joinTick p d s).resetLow = s.resetLow := (joinTick_outputs s p d).resetLow
@[simp] theorem joinTick_pending (s : State) (p : Port) (d : List Byte) :
    (joinTick p d s).pending = s.pending := (joinTick_outputs s p d).pending
@[simp] theorem joinTick_mgmt (s : State) (p : Port) (d : List Byte) :
    (joinTick p d s).mgmt = s.mgmt := (joinTick_outputs s p d).mgmt
@[simp] theorem joinTick_boot (s : State) (p : Port) (d : List Byte) :
    (joinTick p d s).boot = s.boot := (joinTick_outputs s p d).boot
@[simp] theorem joinTick_paramRecord (s : State) (p : Port) (d : List Byte) :
    (joinTick p d s).paramRecord = s.paramRecord := (joinTick_outputs s p d).paramRecord
@[simp] theorem joinTick_defaulted (s : State) (p : Port) (d : List Byte) :
    (joinTick p d s).defaulted = s.defaulted := (joinTick_outputs s p d).defaulted
@[simp] theorem joinTick_clock (s : State) (p : Port) (d : List Byte) :
    (joinTick p d s).clock = s.clock := (joinTick_outputs s p d).clock
@[simp] theorem joinTick_monitor (s : State) (p : Port) (d : List Byte) :
    (joinTick p d s).monitor = s.monitor := (joinTick_outputs s p d).monitor
@[simp] theorem joinTick_settings (s : State) (p : Port) (d : List Byte) :
    (joinTick p d s).settings = s.settings := (joinTick_outputs s p d).settings
@[simp] theorem joinTick_tick (s : State) (p : Port) (d : List Byte) :
    (joinTick p d s).tick = s.tick := (joinTick_outputs s p d).tick
@[simp] theorem joinTick_lines (s : State) (p : Port) (d : List Byte) :
    (joinTick p d s).lines = s.lines := (joinTick_outputs s p d).lines
@[simp] theorem joinTick_tables (s : State) (p : Port) (d : List Byte) :
    (joinTick p d s).tables = s.tables := (joinTick_outputs s p d).tables
@[simp] theorem joinTick_contexts (s : State) (p : Port) (d : List Byte) :
    (joinTick p d s).contexts = s.contexts := (joinTick_outputs s p d).contexts
@[simp] theorem joinTick_log (s : State) (p : Port) (d : List Byte) :
    (joinTick p d s).log = s.log := (joinTick_outputs s p d).log
@[simp] theorem joinTick_locate (s : State) (p : Port) (d : List Byte) :
    (joinTick p d s).locate = s.locate := (joinTick_outputs s p d).locate
@[simp] theorem joinTick_pairing (s : State) (p : Port) (d : List Byte) :
    (joinTick p d s).pairing = s.pairing := (joinTick_outputs s p d).pairing
@[simp] theorem joinTick_freeDraws (s : State) (p : Port) (d : List Byte) :
    (joinTick p d s).freeDraws = s.freeDraws := (joinTick_outputs s p d).freeDraws
@[simp] theorem joinReplies_powered (p : Port) (dest : Byte) (ds : List (List Byte)) (s : State) :
    (joinReplies p dest ds s).powered = s.powered := (joinReplies_outputs p dest ds s).powered
@[simp] theorem joinReplies_resetLow (p : Port) (dest : Byte) (ds : List (List Byte)) (s : State) :
    (joinReplies p dest ds s).resetLow = s.resetLow := (joinReplies_outputs p dest ds s).resetLow
@[simp] theorem joinReplies_pending (p : Port) (dest : Byte) (ds : List (List Byte)) (s : State) :
    (joinReplies p dest ds s).pending = s.pending := (joinReplies_outputs p dest ds s).pending
@[simp] theorem joinReplies_mgmt (p : Port) (dest : Byte) (ds : List (List Byte)) (s : State) :
    (joinReplies p dest ds s).mgmt = s.mgmt := (joinReplies_outputs p dest ds s).mgmt
@[simp] theorem joinReplies_boot (p : Port) (dest : Byte) (ds : List (List Byte)) (s : State) :
    (joinReplies p dest ds s).boot = s.boot := (joinReplies_outputs p dest ds s).boot
@[simp] theorem joinReplies_paramRecord (p : Port) (dest : Byte) (ds : List (List Byte)) (s : State) :
    (joinReplies p dest ds s).paramRecord = s.paramRecord := (joinReplies_outputs p dest ds s).paramRecord
@[simp] theorem joinReplies_defaulted (p : Port) (dest : Byte) (ds : List (List Byte)) (s : State) :
    (joinReplies p dest ds s).defaulted = s.defaulted := (joinReplies_outputs p dest ds s).defaulted
@[simp] theorem joinReplies_clock (p : Port) (dest : Byte) (ds : List (List Byte)) (s : State) :
    (joinReplies p dest ds s).clock = s.clock := (joinReplies_outputs p dest ds s).clock
@[simp] theorem joinReplies_monitor (p : Port) (dest : Byte) (ds : List (List Byte)) (s : State) :
    (joinReplies p dest ds s).monitor = s.monitor := (joinReplies_outputs p dest ds s).monitor
@[simp] theorem joinReplies_settings (p : Port) (dest : Byte) (ds : List (List Byte)) (s : State) :
    (joinReplies p dest ds s).settings = s.settings := (joinReplies_outputs p dest ds s).settings
@[simp] theorem joinReplies_tick (p : Port) (dest : Byte) (ds : List (List Byte)) (s : State) :
    (joinReplies p dest ds s).tick = s.tick := (joinReplies_outputs p dest ds s).tick
@[simp] theorem joinReplies_lines (p : Port) (dest : Byte) (ds : List (List Byte)) (s : State) :
    (joinReplies p dest ds s).lines = s.lines := (joinReplies_outputs p dest ds s).lines
@[simp] theorem joinReplies_tables (p : Port) (dest : Byte) (ds : List (List Byte)) (s : State) :
    (joinReplies p dest ds s).tables = s.tables := (joinReplies_outputs p dest ds s).tables
@[simp] theorem joinReplies_contexts (p : Port) (dest : Byte) (ds : List (List Byte)) (s : State) :
    (joinReplies p dest ds s).contexts = s.contexts := (joinReplies_outputs p dest ds s).contexts
@[simp] theorem joinReplies_log (p : Port) (dest : Byte) (ds : List (List Byte)) (s : State) :
    (joinReplies p dest ds s).log = s.log := (joinReplies_outputs p dest ds s).log
@[simp] theorem joinReplies_locate (p : Port) (dest : Byte) (ds : List (List Byte)) (s : State) :
    (joinReplies p dest ds s).locate = s.locate := (joinReplies_outputs p dest ds s).locate
@[simp] theorem joinReplies_pairing (p : Port) (dest : Byte) (ds : List (List Byte)) (s : State) :
    (joinReplies p dest ds s).pairing = s.pairing := (joinReplies_outputs p dest ds s).pairing
@[simp] theorem joinReplies_freeDraws (p : Port) (dest : Byte) (ds : List (List Byte)) (s : State) :
    (joinReplies p dest ds s).freeDraws = s.freeDraws := (joinReplies_outputs p dest ds s).freeDraws

/-! ### The ports and the event classes -/

/-- Counters of a port that only a dropped notice may have raised (R189). -/
def NoticeDropsOnly (x y : PortState) : Prop :=
  ∃ (more : List Cell) (n k : Nat), y = { x with
    queue := x.queue ++ more, sequence := n, counters := { x.counters with noticeDrop := k } }

theorem NoticeDropsOnly.refl (x : PortState) : NoticeDropsOnly x x :=
  ⟨[], x.sequence, x.counters.noticeDrop, by simp⟩

theorem NoticeDropsOnly.trans {x y z : PortState} (h : NoticeDropsOnly x y) (g : NoticeDropsOnly y z) :
    NoticeDropsOnly x z := by
  obtain ⟨a, n, k, rfl⟩ := h
  obtain ⟨b, m, j, rfl⟩ := g
  exact ⟨a ++ b, m, j, by simp⟩

theorem countAt_noticeDrop (s : State) (p q : Port) :
    NoticeDropsOnly (s.port p)
      ((s.countAt q fun x => { x with noticeDrop := bump x.noticeDrop }).port p) := by
  cases p <;> cases q <;> exact NoticeDropsOnly.refl _

theorem pushMade_noticeDrop (s : State) (p q : Port) (dest : Byte) (kind : Nat) (d : List Byte) :
    NoticeDropsOnly (s.port p) ((s.pushMade q dest kind d).port p) := by
  cases p <;> cases q <;> first
    | exact NoticeDropsOnly.refl _
    | exact ⟨_, _, (s.port _).counters.noticeDrop, rfl⟩

theorem dropNotice_port (s : State) (p : Port) :
    NoticeDropsOnly (s.port p) ((dropNotice s).port p) := countAt_noticeDrop s p _

/-- Raising an event leaves a port's transmitter, header and counters but `noticeDrop`, and only adds to its
queue (R188, R189). -/
theorem raise_port (s : State) (c : EventClass) (d : List Byte) (p : Port) :
    NoticeDropsOnly (s.port p) ((raise c d s).port p) := by
  unfold raise
  dsimp only
  split
  · unfold sendNotice
    split
    · simpa using pushMade_noticeDrop (recordEvent c d s) p _ _ _ _
    · have h1 := dropNotice_port (recordEvent c d s) p
      rw [recordEvent_port] at h1
      refine h1.trans ?_
      unfold raiseNoticeDrop
      dsimp only
      split
      · have h2 := dropNotice_port (recordEvent .egressDrop (dropDetail (dropNotice (recordEvent c d s)).managerPort 3)
          (dropNotice (recordEvent c d s))) p
        rw [recordEvent_port] at h2 ⊢
        exact h2
      · rw [recordEvent_port]
        exact NoticeDropsOnly.refl _
  · rw [recordEvent_port]
    exact NoticeDropsOnly.refl _

/-- Raising an event keeps every egress queue within its capacity (R40, R189). -/
theorem raise_queue_length (s : State) (c : EventClass) (d : List Byte) (p : Port)
    (h : (s.port p).queue.length ≤ Config.egressCapacity) :
    ((raise c d s).port p).queue.length ≤ Config.egressCapacity := by
  have drop (t : State) (q : Port) (f : Counters → Counters) :
      ((t.countAt q f).port p).queue = (t.port p).queue := by cases p <;> cases q <;> rfl
  unfold raise
  dsimp only
  split
  · unfold sendNotice
    split
    · rename_i hr
      revert hr
      generalize (recordEvent c d s).managerPort = q
      intro hr
      cases p <;> cases q <;>
        simp [State.pushMade, State.hasRoom, State.port, State.setPort] at hr h ⊢ <;>
        first | omega | exact of_decide_eq_true hr
    · have : ((raiseNoticeDrop (dropNotice (recordEvent c d s))).port p).queue = (s.port p).queue := by
        unfold raiseNoticeDrop
        dsimp only
        split <;> simp [dropNotice, drop]
      rw [this]
      exact h
  · simpa using h

/-- Recording an event changes its own class alone (R186). -/
theorem recordEvent_events_ne (s : State) (c : EventClass) (d : List Byte) (i : Fin 18)
    (h : eventIndex c ≠ i) : (recordEvent c d s).events[i] = s.events[i] := by
  have : (eventIndex c : Nat) ≠ i := fun e => h (Fin.ext e)
  simp [recordEvent, State.evalFault, this]

end Sys2Proof.Laws
end

