-- ==== Sys2Proof/Laws/Log.lean ====
section
/-! SUPPORT. What the Anchor Log's operations do (R124 to R127). -/

set_option Elab.async false

namespace Sys2Proof.Laws

open Sys2Proof.Machine

/-- The entries with the end of a context's open segment filled in (R126). -/
def filledEntries (s : State) (slot : Fin 128) (ending : Option SegmentEnd) : List LogEntry :=
  match ending, (s.ctx slot).anchor with
  | some e, some a => s.log.entries.map (fillEntry a.seq e)
  | some _, none => s.log.entries
  | none, _ => s.log.entries

@[simp] theorem filledEntries_length (s : State) (slot : Fin 128) (ending : Option SegmentEnd) :
    (filledEntries s slot ending).length = s.log.entries.length := by
  unfold filledEntries
  split <;> simp

@[simp] theorem fillEntry_seq (seq : Nat) (e : SegmentEnd) (x : LogEntry) :
    (fillEntry seq e x).seq = x.seq := by
  unfold fillEntry
  split <;> rfl

@[simp] theorem fillEntry_slot (seq : Nat) (e : SegmentEnd) (x : LogEntry) :
    (fillEntry seq e x).slot = x.slot := by
  unfold fillEntry
  split <;> rfl

/-- Filling a segment's end changes the Log's entries alone (R126). -/
theorem fillSegment_eq (slot : Fin 128) (e : SegmentEnd) (s : State) :
    fillSegment slot e s =
      { s with log := { s.log with entries := filledEntries s slot (some e) } } := by
  unfold fillSegment filledEntries
  split <;> simp_all

/-- With room in the Log nothing is evicted (R125, R127). -/
theorem evictOldest_room (s : State) (h : s.log.entries.length < Config.logCapacity) :
    evictOldest s = s := by
  unfold evictOldest
  split
  · rfl
  · rw [if_pos h]

/-- A full Log loses its oldest entry, whose slot's context is marked history-trimmed (R127). -/
theorem evictOldest_full (s : State) (x : LogEntry) (rest : List LogEntry) (hx : s.log.entries = x :: rest)
    (h : Config.logCapacity ≤ s.log.entries.length) :
    evictOldest s = { s.setCtx x.slot { s.ctx x.slot with trimmed := true } with
      log := { s.log with entries := rest } } := by
  unfold evictOldest
  split
  · rename_i hn
    rw [hx] at hn
    exact absurd hn (by simp)
  · rename_i y ys hy
    rw [hx] at hy
    obtain ⟨rfl, rfl⟩ := List.cons.inj hy
    rw [if_neg (by omega)]

/-- What an eviction can do: nothing in a Log with room, or the oldest entry gone and a flag set (R127). -/
theorem evictOldest_cases (s : State) :
    (evictOldest s = s ∧ (s.log.entries.length < Config.logCapacity ∨ s.log.entries = [])) ∨
    ∃ x rest, s.log.entries = x :: rest ∧ Config.logCapacity ≤ s.log.entries.length ∧
      evictOldest s = { s.setCtx x.slot { s.ctx x.slot with trimmed := true } with
        log := { s.log with entries := rest } } := by
  by_cases h : s.log.entries.length < Config.logCapacity
  · exact .inl ⟨evictOldest_room s h, .inl h⟩
  · cases hx : s.log.entries with
    | nil => exact .inl ⟨by simp [evictOldest, hx], .inr rfl⟩
    | cons x rest =>
      refine .inr ⟨x, rest, rfl, ?_, evictOldest_full s x rest hx (by omega)⟩
      rw [hx] at h
      omega

/-- An anchor change with room in the Log: the old segment's end filled, the new entry at the back with the next
sequence number, which the context records (R125). -/
theorem anchorChange_room (slot : Fin 128) (reason : AnchorReason) (c0 pt0 : Nat)
    (ending : Option SegmentEnd) (s : State) (h : s.log.entries.length < Config.logCapacity) :
    anchorChange slot reason c0 pt0 ending s =
      { s.setCtx slot { s.ctx slot with anchor := some ⟨c0, pt0, s.log.nextSeq⟩ } with
        log := { entries := filledEntries s slot ending ++ [newEntry s slot reason c0 pt0]
                 nextSeq := (s.log.nextSeq + 1) % Config.wrap32 } } := by
  unfold anchorChange
  cases ending with
  | none =>
    simp only
    rw [evictOldest_room s h]
    rfl
  | some e =>
    simp only
    rw [fillSegment_eq, evictOldest_room _ (by rw [filledEntries_length]; exact h)]
    rfl

/-- The context of a slot after one is replaced. -/
theorem setCtx_ctx (s : State) (i j : Fin 128) (c : Context) :
    (s.setCtx i c).ctx j = if i = j then c else s.ctx j := by
  by_cases h : i = j
  · subst h; simp
  · rw [if_neg h, setCtx_ctx_ne _ _ _ _ h]

/-- Contexts of two slots are replaced in either order. -/
theorem setCtx_comm (s : State) (i j : Fin 128) (c d : Context) (h : i ≠ j) :
    (s.setCtx i c).setCtx j d = (s.setCtx j d).setCtx i c := by
  simp only [State.setCtx]
  congr 1
  ext k hk
  simp only [Vector.getElem_set]
  have : (i : Nat) ≠ j := fun e => h (Fin.ext e)
  split <;> split <;> simp_all

/-- An eviction and an append (R125, R127), the context's other fields set before. -/
theorem appendAnchor_evictOldest (slot : Fin 128) (reason : AnchorReason) (c0 pt0 : Nat) (s : State)
    (w : SourceEntry) (h : (s.ctx slot).work = some w) :
    appendAnchor slot reason c0 pt0 (evictOldest s) = s.anchoredAt slot (s.ctx slot) w reason c0 pt0 := by
  have hw : (s.ctx slot).entry = w := by simp [Context.entry, h]
  unfold State.anchoredAt State.appended
  cases hx : s.log.entries with
  | nil =>
    rw [evictOldest_room s (by rw [hx]; decide)]
    simp [appendAnchor, newEntry, hw, hx]
  | cons x rest =>
    by_cases hl : s.log.entries.length < 512
    · rw [evictOldest_room s hl]
      rw [hx] at hl
      simp only [setCtx_log, hx, if_pos hl]
      simp [appendAnchor, newEntry, hw, hx]
    · rw [evictOldest_full s x rest hx (by simpa using hl)]
      rw [hx] at hl
      simp only [setCtx_log, hx, if_neg hl]
      have hE (L : AnchorLog) (T : Context) : ({ s.setCtx x.slot T with log := L } : State).ctx slot =
          if x.slot = slot then T else s.ctx slot := setCtx_ctx ..
      have hS (L : AnchorLog) (T U : Context) : ({ s.setCtx x.slot T with log := L } : State).setCtx slot U =
          { (s.setCtx x.slot T).setCtx slot U with log := L } := rfl
      unfold appendAnchor newEntry
      rw [hS, hE, setCtx_ctx]
      by_cases he : x.slot = slot
      · subst he
        rw [if_pos rfl, if_pos rfl, setCtx_setCtx, setCtx_setCtx]
        simp only [Context.entry, h, Option.getD_some]
        rfl
      · rw [if_neg he, if_neg (Ne.symm he), setCtx_comm _ _ _ _ _ he]
        simp only [Context.entry, h, Option.getD_some]
        rfl

/-- Filling the end of a segment (R126), before or after the context is replaced by one of the same anchor. -/
theorem fillSegment_setCtx (slot : Fin 128) (e : SegmentEnd) (s : State) (c : Context) :
    fillSegment slot e (s.setCtx slot c) = (s.segmentEnded c e).setCtx slot c := by
  unfold fillSegment State.segmentEnded
  rw [setCtx_ctx_same]
  cases c.anchor <;> rfl

/-- A segment's end depends on the context's anchor alone (R126). -/
theorem segmentEnded_congr (s : State) (c d : Context) (e : SegmentEnd) (h : c.anchor = d.anchor) :
    s.segmentEnded c e = s.segmentEnded d e := by unfold State.segmentEnded; rw [h]

/-- A context's fields are replaced by the ones it is anchored with. -/
theorem anchoredAt_setCtx (s : State) (slot : Fin 128) (c d : Context) (w : SourceEntry)
    (r : AnchorReason) (a b : Nat) :
    (s.setCtx slot c).anchoredAt slot d w r a b = s.anchoredAt slot d w r a b := by
  unfold State.anchoredAt
  rw [setCtx_setCtx]; rfl

/-- An anchor change, whatever room the Log has (R125 to R127). -/
theorem anchorChange_eq (slot : Fin 128) (reason : AnchorReason) (c0 pt0 : Nat) (ending : Option SegmentEnd)
    (s : State) (c : Context) (w : SourceEntry) (h : c.work = some w) :
    anchorChange slot reason c0 pt0 ending (s.setCtx slot c) =
      (match ending with
        | some e => s.segmentEnded c e
        | none => s).anchoredAt slot c w reason c0 pt0 := by
  unfold anchorChange
  cases ending with
  | none =>
    dsimp only
    rw [appendAnchor_evictOldest _ _ _ _ _ w (by simpa using h), setCtx_ctx_same, anchoredAt_setCtx]
  | some e =>
    dsimp only
    rw [fillSegment_setCtx, appendAnchor_evictOldest _ _ _ _ _ w (by simpa using h), setCtx_ctx_same,
      anchoredAt_setCtx]

end Sys2Proof.Laws
end

