-- ==== Sys2Proof/Laws/Clock.lean ====
section
/-! SUPPORT. What the passing of time does at a quiet instant (R2, R15, R58 to R60). -/

set_option Elab.async false

namespace Sys2Proof.Laws

open Sys2Proof.Machine

/-- At a quiet instant nothing falls due. -/
theorem settle_quiet (s : State) (h : Quiet s) : settle s = s := by
  obtain ⟨h1, h2, h3, h4, h5, h6⟩ := h
  have e1 : silentSlots s = [] := by simp [silentSlots, h1]
  have e2 : dueClaps s = [] := by
    simp only [dueClaps, List.map_eq_nil_iff, List.filter_eq_nil_iff, Bool.not_eq_true]
    exact h2
  have e3 : dueTransient s = none := by
    simp only [dueTransient, List.findIdx?_eq_none_iff]
    exact h3
  have e4 (n : Nat) : expireTransients n s = s := by cases n <;> simp [expireTransients, e3]
  simp [settle, e1, e2, e4, makeTick, h4, toggleA, h5, toggleB, h6]

/-- Cycles within which no timer and no walk ends only move the clock (R2). -/
theorem passCycles_eq (n : Nat) (s : State) (h : NothingEndsWithin n s) :
    passCycles n s =
      { s with clock := { s.clock with now := s.clock.now + n, phase := s.clock.phase + n } } := by
  obtain ⟨h1, h2⟩ := h
  simp [passCycles, h1, h2]

/-- In the last milliframe of a frame no milliframe boundary is left before the frame boundary. -/
theorem lastMilliframe_last (s : State) (h : s.clock.k = 999) (n : Nat) : lastMilliframe n s = s := by
  cases n <;> simp [lastMilliframe, h]

/-- A check passes over an entry that is whole (R58). -/
theorem checkPosition_whole (s : State) (n : Nat) (h : PositionWhole s n) : checkPosition n s = s := by
  obtain ⟨h1, h2, h3⟩ := h
  unfold checkPosition
  split
  · rename_i hn
    unfold checkMap
    split
    · rename_i e he
      rw [if_neg]
      rw [← he]
      simp [h1 hn]
    · rfl
  · split
    · rename_i hn hm
      unfold checkSource
      split
      · rename_i e he
        rw [if_neg]
        rw [← he]
        simp [h2 ⟨n - 256, by omega⟩ (by simp; omega)]
      · rfl
    · split
      · rename_i hn hm hl
        have h4 := h3 ⟨n - 384, by omega⟩ (by simp; omega)
        unfold checkGroup
        split
        · rename_i e he
          rw [if_neg]
          rw [← he]
          simpa using h4
        · rfl
      · rfl

/-- The Scrubber passes over whole entries (R59). -/
theorem scrub_whole (n : Nat) (s : State) (hp : s.tables.scrubPos < 400)
    (h : ∀ j < n, PositionWhole s ((s.tables.scrubPos + j) % 400)) :
    scrub n s =
      { s with tables := { s.tables with scrubPos := (s.tables.scrubPos + n) % 400 } } := by
  induction n generalizing s with
  | zero => simp [scrub, Nat.mod_eq_of_lt hp]
  | succ n ih =>
    have h0 := h 0 (by omega)
    rw [Nat.add_zero, Nat.mod_eq_of_lt hp] at h0
    have hs : scrubOne s =
        { s with tables := { s.tables with scrubPos := (s.tables.scrubPos + 1) % 400 } } := by
      simp [scrubOne, checkPosition_whole s _ h0]
    rw [scrub, hs, ih]
    · simp only [State.mk.injEq, Tables.mk.injEq, true_and, and_true]
      omega
    · exact Nat.mod_lt _ (by omega)
    · intro j hj
      have e : ((s.tables.scrubPos + 1) % 400 + j) % 400 = (s.tables.scrubPos + (j + 1)) % 400 := by
        omega
      simp only [e]
      exact h (j + 1) (by omega)

/-- One check of the walk on a whole entry goes on to the next position (R60). -/
theorem walkCheck_whole (s : State) (n t : Nat) (hw : s.tables.walk = .checking n t) (hn : n < 400)
    (h : PositionWhole s n) :
    walkCheck s = { s with tables := { s.tables with walk := .checking (n + 1) t } } := by
  simp [walkCheck, hw, hn, checkPosition_whole s n h, State.setWalk]

/-- The walk passes over a run of whole entries (R60). -/
theorem walkChecks_whole (n k t : Nat) (s : State) (hw : s.tables.walk = .checking n t) (hn : n + k ≤ 400)
    (h : ∀ j, n ≤ j → j < n + k → PositionWhole s j) :
    walkChecks k s = { s with tables := { s.tables with walk := .checking (n + k) t } } := by
  induction k generalizing n s with
  | zero => rw [walkChecks, Nat.add_zero, ← hw]
  | succ k ih =>
    rw [walkChecks, walkCheck_whole s n t hw (by omega) (h n (by omega) (by omega))]
    rw [ih (n + 1) { s with tables := { s.tables with walk := .checking (n + 1) t } } rfl (by omega)
      fun j a b => h j (by omega) (by omega)]
    rw [show n + 1 + k = n + (k + 1) by omega]

/-! ### House frames -/

/-- In COMPLEMENT mode an enabled TICKB stands inverse to TICKA (R20). -/
theorem complementB_eq (l : TickLines) : complementB l =
    { l with b := if l.mode = .complement ∧ l.b.started then { l.b with high := !l.a.high } else l.b } := by
  unfold complementB
  split <;> rfl

/-- A context's silence counter at a house frame boundary (R117). -/
theorem countSilence_eq (c : Context) : c.countSilence =
    if c.state ≠ .closed ∧ c.state ≠ .lost ∧ c.anchor ≠ none then { c with silence := c.silence - 1 }
    else c := by
  unfold Context.countSilence Context.counting Context.isOpen
  cases c.state <;> cases c.anchor <;> rfl

/-- The silence counters and the tick countdown at a frame boundary of a run (R18, R117). -/
theorem frameCounted_eq (s : State) : frameTick (frameSilence s) = s.frameCounted := by
  unfold frameTick frameSilence State.frameCounted
  rw [funext countSilence_eq]
  by_cases h0 : s.settings.tickInterval = 0 ∨ s.clock.pt = Config.maxPt
  · exact (if_pos h0).trans (by rw [if_pos h0])
  · exact (if_neg h0).trans (by rw [if_neg h0])

/-- A frame that begins `n` cycles on, with no run to begin (R2). -/
theorem beginFrame_opens (n pt : Nat) (s : State) (h : runReady s = false) :
    beginFrame pt
        { s with clock := { s.clock with now := s.clock.now + n, phase := s.clock.phase + n } } =
      frameLines (if s.mgmt.device = .running
        then (scrub s.settings.scrubRate (s.frameOpened n pt)).frameCounted else s.frameOpened n pt) := by
  have hr : runReady
      { s with clock := { s.clock with now := s.clock.now + n, phase := s.clock.phase + n } } = false := h
  unfold beginFrame
  rw [if_neg (by rw [hr]; simp)]
  unfold framePaced
  rw [frameCounted_eq]
  rfl

/-- A frame that begins `n` cycles on, with whole entries for the Scrubber and no run to begin (R2). -/
theorem beginFrame_eq (n pt : Nat) (s : State) (h : runReady s = false) (hw : ScrubFindsWhole s) :
    beginFrame pt
        { s with clock := { s.clock with now := s.clock.now + n, phase := s.clock.phase + n } } =
      frameLines (s.frameBegun n pt) := by
  rw [beginFrame_opens n pt s h]
  unfold State.frameBegun
  by_cases hd : s.mgmt.device = .running
  · obtain ⟨hp, hs⟩ := hw hd
    rw [if_pos hd]
    dsimp only
    rw [if_pos hd, scrub_whole _ _ (by exact hp) (by exact hs)]
    rfl
  · rw [if_neg hd]
    dsimp only
    rw [if_neg hd]

/-- A step aligns the frame phase by beginning a frame at the next multiple of 1000 (R16). -/
theorem align_step (s : State) (hk : 500 ≤ s.clock.k) (hq : Quiet s) (hw : ScrubFindsWhole s)
    (hr : runReady s = false) : align s =
      frameLines (s.frameBegun 0 (min ((s.clock.pt / 1000 + 1) * 1000) Config.maxPt)) := by
  unfold align
  rw [if_pos hk]
  dsimp only
  rw [settle_quiet s hq]
  have hn : nextThousand s.clock.pt = min ((s.clock.pt / 1000 + 1) * 1000) Config.maxPt := by
    unfold nextThousand
    congr 1
    omega
  rw [hn]
  exact beginFrame_eq 0 _ s hr hw

theorem frameLines_monitor (s : State) (m : RefMonitor) :
    frameLines { s with monitor := m } = { frameLines s with monitor := m } := by
  unfold frameLines
  split <;> rename_i h
  · rw [if_pos (by exact h)]; rfl
  · rw [if_neg (by exact h)]

theorem frameBegun_monitor (s : State) (n pt : Nat) (m : RefMonitor) :
    State.frameBegun { s with monitor := m } n pt = { s.frameBegun n pt with monitor := m } := by
  by_cases h : s.mgmt.device = .running <;>
    simp only [State.frameBegun, State.frameOpened, State.frameCounted, h, if_true, if_false]

end Sys2Proof.Laws
end

