-- ==== Sys2Proof/Laws/Requests.lean ====
section
/-! SUPPORT. What a request's beginning and end can do (R131, R172, R173), and how a request's operands read. -/

set_option Elab.async false

namespace Sys2Proof.Laws

open Sys2Proof.Machine

/-! ### Operands -/

theorem slot_of_arg (r : Request) (i : Fin 128) (n : Nat) (h : r.arg n 1 = i) : r.slot n = some i := by
  simp [Request.slot, h]

theorem groupPlace_of_arg (r : Request) (i : Fin 16) (h : r.arg 0 1 = i + 1) : r.groupPlace = some i := by
  unfold Request.groupPlace groupPlace
  rw [dif_pos (by omega)]
  congr 1
  ext
  simp [h]

/-! ### Management requests -/

/-- A long enough request that the device state serves is acted on, and its whole reply fixed (R172, R173). -/
theorem beginHandling_serves {s : State} {r : Request} {isKind : Nat → Bool} {served : DeviceState → Bool}
    {act : Request → State → Verdict} (h : Awaits s r) (hk : isKind r.kind = true)
    (hs : served s.mgmt.device = true) :
    beginHandling isKind served act s =
      (act r s).after.answer r (act r s).status (act r s).data := by
  obtain ⟨_, h2, h3, h4, h5⟩ := h
  match hi : s.mgmt.inbox, h3 with
  | q :: rest, h3 =>
    simp only [List.head?_cons, Option.some.injEq] at h3
    subst h3
    simp [beginHandling, h2, hi, hk, h4, judge, Nat.not_lt.mpr h5, hs, State.answer]

/-- The same for a command of one kind code. -/
theorem beginHandling_code {s : State} {r : Request} {n : Nat} {served : DeviceState → Bool}
    {act : Request → State → Verdict} (h : Awaits s r) (hk : r.kind = n)
    (hs : served s.mgmt.device = true) :
    beginHandling (isCode n) served act s =
      (act r s).after.answer r (act r s).status (act r s).data :=
  beginHandling_serves h (by simp [isCode, hk]) hs

/-- A request too short for its kind is refused RANGE (R172). -/
theorem beginHandling_short {s : State} {r : Request} {isKind : Nat → Bool}
    {served : DeviceState → Bool} {act : Request → State → Verdict} (h2 : s.mgmt.handling = none)
    (h3 : s.mgmt.inbox.head? = some r) (h4 : r.broadcast = false) (hk : isKind r.kind = true)
    (hs : r.args.length < argNeed r.kind) :
    beginHandling isKind served act s = s.answer r .range [refusalData r] := by
  match hi : s.mgmt.inbox, h3 with
  | q :: rest, h3 =>
    simp only [List.head?_cons, Option.some.injEq] at h3
    subst h3
    simp [beginHandling, h2, hi, hk, h4, judge, hs, State.answer, refuseWith]

/-- A request that the device state does not serve is refused BUSY in STARTING, STATE elsewhere (R172). -/
theorem beginHandling_unserved {s : State} {r : Request} {isKind : Nat → Bool}
    {served : DeviceState → Bool} {act : Request → State → Verdict} (h2 : s.mgmt.handling = none)
    (h3 : s.mgmt.inbox.head? = some r) (h4 : r.broadcast = false) (hk : isKind r.kind = true)
    (hl : argNeed r.kind ≤ r.args.length) (hs : served s.mgmt.device = false) :
    beginHandling isKind served act s =
      s.answer r (if s.mgmt.device = .starting then .busy else .state) [refusalData r] := by
  match hi : s.mgmt.inbox, h3 with
  | q :: rest, h3 =>
    simp only [List.head?_cons, Option.some.injEq] at h3
    subst h3
    simp [beginHandling, h2, hi, hk, h4, judge, Nat.not_lt.mpr hl, hs, State.answer, refuseWith, stateRefusal]

/-- While a request is in handling no other begins (R173). -/
theorem beginHandling_busy {s : State} {a : List (List Byte)} {isKind : Nat → Bool}
    {served : DeviceState → Bool} {act : Request → State → Verdict}
    (h : s.mgmt.handling = some a) : beginHandling isKind served act s = s := by
  simp [beginHandling, h]

/-- A request's judgment refuses it or acts on it (R172). -/
theorem judge_cases (served : DeviceState → Bool) (act : Request → State → Verdict) (r : Request)
    (s : State) : (∃ st d, judge served act r s = refuseWith st d s) ∨
      (judge served act r s = act r s ∧ argNeed r.kind ≤ r.args.length ∧
        served s.mgmt.device = true) := by
  unfold judge
  split
  · exact .inl ⟨_, _, rfl⟩
  · split
    · exact .inr ⟨rfl, by omega, by assumption⟩
    · exact .inl ⟨_, _, rfl⟩

/-- What the beginning of a handling can do: nothing; a refused broadcast leaves the inbox; or the act's state
with a reply fixed. -/
theorem beginHandling_cases (isKind : Nat → Bool) (served : DeviceState → Bool)
    (act : Request → State → Verdict) (s : State) :
    beginHandling isKind served act s = s ∨
    (∃ r rest, s.mgmt.inbox = r :: rest ∧
      beginHandling isKind served act s = { s with mgmt := { s.mgmt with inbox := rest } }) ∨
    (∃ a, beginHandling isKind served act s =
      { s with mgmt := { s.mgmt with handling := some a } }) ∨
    (∃ r rest a, s.mgmt.handling = none ∧ s.mgmt.inbox = r :: rest ∧ isKind r.kind = true ∧
      argNeed r.kind ≤ r.args.length ∧ served s.mgmt.device = true ∧
      beginHandling isKind served act s =
        { (act r s).after with mgmt := { (act r s).after.mgmt with handling := some a } }) := by
  unfold beginHandling
  split
  · rename_i r rest hh hi
    by_cases hk : isKind r.kind = true
    · have hv := judge_cases served act r s
      simp only [hk, if_true]
      generalize judge served act r s = v at hv
      rcases hv with ⟨st, d, rfl⟩ | ⟨rfl, hl, hs⟩
      · split
        · split
          · exact .inr (.inr (.inl ⟨_, rfl⟩))
          · exact .inr (.inl ⟨r, rest, hi, rfl⟩)
        · exact .inr (.inr (.inl ⟨_, rfl⟩))
      · split
        · split
          · exact .inr (.inr (.inr ⟨r, rest, _, hh, hi, hk, hl, hs, rfl⟩))
          · exact .inr (.inl ⟨r, rest, hi, rfl⟩)
        · exact .inr (.inr (.inr ⟨r, rest, _, hh, hi, hk, hl, hs, rfl⟩))
    · exact .inl (by simp [hk])
  · exact .inl rfl

/-- What the end of a handling can do: nothing, or cells of the reply and the request gone from the inbox. -/
theorem endHandling_cases (s : State) :
    endHandling s = s ∨ endHandling s = { s with mgmt := { s.mgmt with handling := none } } ∨
    ∃ r rest a, s.mgmt.inbox = r :: rest ∧ s.mgmt.handling = some a ∧ endHandling s =
      { joinReplies r.port r.origin a s with
        mgmt := { s.mgmt with inbox := rest, handling := none } } := by
  unfold endHandling
  split
  · rename_i a r rest hh hi
    exact .inr (.inr ⟨r, rest, a, hi, hh, by simp⟩)
  · exact .inr (.inl rfl)
  · exact .inl rfl

/-! ### Locate requests -/

/-- A locate request's service begins by fixing its answer alone (R131). -/
theorem beginService_serves {s : State} {r : Request} {kind : Nat}
    {answer : Request → State → List (List Byte)} (h : AwaitsLocate s r) (hk : r.kind = kind) :
    beginService kind answer s =
      { s with locate := { s.locate with service := some (answer r s) } } := by
  obtain ⟨_, h2, h3, h4⟩ := h
  subst hk
  match hq : s.locate.queue, h3 with
  | q :: rest, h3 =>
    simp only [List.head?_cons, Option.some.injEq] at h3
    subst h3
    simp [beginService, h2, hq, Nat.not_lt.mpr h4]

/-- A service's beginning changes nothing but the answer fixed (R131). -/
theorem beginService_cases (kind : Nat) (answer : Request → State → List (List Byte)) (s : State) :
    beginService kind answer s = s ∨
    ∃ a, beginService kind answer s = { s with locate := { s.locate with service := some a } } := by
  unfold beginService
  split
  · split
    · exact .inr ⟨_, rfl⟩
    · exact .inl rfl
  · exact .inl rfl

/-- Ending the locate queue touches the queue and outputs alone (R139). -/
theorem stopLocate_outputs (s : State) : ∃ t, OutputsOnly s t ∧
    stopLocate s = { t with locate := { queue := [], service := none } } := by
  refine ⟨_, ?_, rfl⟩
  generalize s.locate.queue = q
  induction q generalizing s with
  | nil => exact OutputsOnly.refl s
  | cons r q ih => exact (joinReply_outputs s r.port r.origin _).trans (ih _)

/-- Ending the locate queue, spelled out (R139). -/
theorem stopLocate_eq (s : State) : stopLocate s = s.stopped := rfl

/-- Ending the locate queue touches the queue and outputs alone (R139). -/
theorem stopped_eq (s : State) : s.stopped = { s with
    events := s.stopped.events, faultn := s.stopped.faultn, portS := s.stopped.portS
    portP := s.stopped.portP, locate := { queue := [], service := none } } := by
  obtain ⟨t, h, e⟩ := stopLocate_outputs s
  have e' : s.stopped = { t with locate := { queue := [], service := none } } := e
  rw [e']
  unfold OutputsOnly at h
  rw [h]

/-! ### Broadcasts -/

/-- An accepted request's handling begins, addressed or broadcast (R173, R174). -/
theorem beginHandling_accepts {s t : State} {r : Request} {n : Nat} {served : DeviceState → Bool}
    {act : Request → State → Verdict} {data : List (List Byte)} (h : StandsNext s r) (hk : r.kind = n)
    (hs : served s.mgmt.device = true) (hv : act r s = ⟨t, .ok, data⟩) :
    beginHandling (isCode n) served act s = t.accepted r data := by
  obtain ⟨_, h2, h3, h5⟩ := h
  match hi : s.mgmt.inbox, h3 with
  | q :: rest, h3 =>
    simp only [List.head?_cons, Option.some.injEq] at h3
    subst h3
    cases hb : q.broadcast <;>
      simp [beginHandling, h2, hi, isCode, hk, hb, judge, Nat.not_lt.mpr (hk ▸ h5), hs, hv, State.accepted,
        Verdict.accepted]

/-- A broadcast that the device state does not accept is discarded at its taking (R174). -/
theorem beginHandling_discards {s : State} {r : Request} {n : Nat} {served : DeviceState → Bool}
    {act : Request → State → Verdict} (h : StandsNext s r) (hb : r.broadcast = true) (hk : r.kind = n)
    (hs : served s.mgmt.device = false) :
    beginHandling (isCode n) served act s =
      { s with mgmt := { s.mgmt with inbox := s.mgmt.inbox.tail } } := by
  obtain ⟨_, h2, h3, h5⟩ := h
  match hi : s.mgmt.inbox, h3 with
  | q :: rest, h3 =>
    simp only [List.head?_cons, Option.some.injEq] at h3
    subst h3
    have hr : stateRefusal s = .busy ∨ stateRefusal s = .state := by unfold stateRefusal; split <;> simp
    rcases hr with h | h <;>
      simp [beginHandling, h2, hi, isCode, hk, hb, judge, Nat.not_lt.mpr (hk ▸ h5), hs, refuseWith,
        Verdict.accepted, h]

end Sys2Proof.Laws
end

