-- ==== Sys2Proof/Laws/Link.lean ====
section
/-! SUPPORT. What a cell's arrival does before its kind matters (R29 to R31). -/

set_option Elab.async false

namespace Sys2Proof.Laws

open Sys2Proof Sys2Proof.Machine

/-! ### Cells that power-up or RESETn discards (R29) -/

/-- The power-up values are power-up values: no block changes twice (R168). -/
theorem powerUpValues_twice (s : State) : powerUpValues (powerUpValues s) = powerUpValues s := by
  simp [powerUpValues, discardedPort, Option.map_map, Function.comp_def]

/-- The end of a discarded cell leaves every power-up value as it is (R29, R170). -/
theorem powerUpValues_passDiscarded (port : Port) (s : State) :
    powerUpValues (passDiscarded port s) = passDiscarded port (powerUpValues s) := by
  cases port <;> rfl

/-- A cell begun while the part is held leaves every power-up value as it is (R29, R170). -/
theorem powerUpValues_discard (port : Port) (s : State) :
    powerUpValues (s.setPort port { s.port port with header := some .discard }) =
      (powerUpValues s).setPort port { (powerUpValues s).port port with header := some .discard } := by
  cases port <;> rfl

/-- A good cell is counted as arrived and routed (R29, R31). -/
theorem arriveCell_good (port : Port) (w : Cell) (s : State) (h : cellGood w = true) :
    arriveCell port w s = routeCell port w (arrivalPt s port) (s.received port id) := by
  cases port <;> simp [arriveCell, h] <;> rfl

/-- A damaged cell is counted and raises LINK_DAMAGE (R30). -/
theorem arriveCell_damaged (port : Port) (w : Cell) (s : State) (h : cellGood w = false) :
    arriveCell port w s = raise .linkDamage [portCode port]
      (s.received port fun x => { x with damaged := bump x.damaged }) := by
  cases port <;> simp [arriveCell, h] <;> rfl

/-- The rest of a discarded cell only ends it (R29). -/
theorem exec_cellArrival_discarded (port : Port) (w : Cell) (s : State)
    (h : s.alive = false ∨ s.discards port = true) :
    exec (.cellArrival port w) s = .next (passDiscarded port s) := by
  obtain h | h := h <;> simp [exec, execCellArrival, h]

theorem exec_cellArrival_good (port : Port) (w : Cell) (s : State) (ha : s.alive = true)
    (hd : s.discards port = false) (h : cellGood w = true) :
    exec (.cellArrival port w) s =
      .next (routeCell port w (arrivalPt s port) (s.received port id)) := by
  simp [exec, execCellArrival, ha, hd, arriveCell_good _ _ _ h]

/-- A mark for the Stamping Unit is handed to it with its arrival PT (R31, R82). -/
theorem exec_cellArrival_mark (port : Port) (w : Cell) (s : State) (h : ReachesStamping s port w) :
    exec (.cellArrival port w) s =
      .next (stampMark port w (arrivalPt s port) (s.received port id)) := by
  obtain ⟨ha, hx, hd, hg, hs, need, hn, hl⟩ := h
  rw [exec_cellArrival_good _ _ _ ha hx hg]
  simp [routeCell, hn, routeMark, hs, Nat.not_lt.mpr hl, hd]

/-! ### Bytes -/

@[simp] theorem beBytes_length (w n : Nat) : (beBytes w n).length = w := by
  induction w <;> simp [beBytes, *]

theorem byteAt_append_left (a b : List Byte) (i : Nat) (h : i < a.length) :
    byteAt (a ++ b) i = byteAt a i := by
  simp [byteAt, List.getElem?_append_left h]

theorem byteAt_dropLast (a : List Byte) (i : Nat) (h : i + 1 < a.length) :
    byteAt a.dropLast i = byteAt a i := by
  have h1 : i < a.length - 1 := by omega
  have h2 : i < a.length := by omega
  simp [byteAt, h1, h2]

/-- Setting the stamped flag of a kind byte keeps its kind and stream (Table 2-1, R37). -/
theorem stampedFlag_set (b : Byte) (h : b.getLsbD 3 = false) :
    (b ||| 8).toNat / 16 = b.toNat / 16 ∧ (b ||| 8).toNat % 4 = b.toNat % 4 ∧
      (b ||| 8).getLsbD 3 = true := by
  revert b
  decide

end Sys2Proof.Laws
end

