-- ==== Sys2Proof/Laws/Pairing.lean ====
section
/-! SUPPORT. What the Pairing Unit's operations do (R153, R154, R159, R162, R163), and a close (R105). -/

set_option Elab.async false

namespace Sys2Proof.Laws

open Sys2Proof.Machine

/-! ### Orders left open -/

theorem insertRanked_perm {α : Type} (rank : α → Nat) (x : α) (l : List α) :
    (insertRanked rank x l).Perm (x :: l) := by
  induction l with
  | nil => exact .refl _
  | cons y ys ih =>
    unfold insertRanked
    split
    · exact .refl _
    · exact (ih.cons y).trans (.swap x y ys)

/-- Items taken in any order are the same items (R107, R163). -/
theorem inAnyOrder_perm {α : Type} (draw : Nat) (name : α → Nat) (l : List α) :
    (inAnyOrder draw name l).Perm l := by
  unfold inAnyOrder
  induction l with
  | nil => exact .refl _
  | cons x xs ih => exact (insertRanked_perm _ x _).trans (ih.cons x)

/-! ### The nearest candidate -/

theorem ptGap_eq (a b : Nat) : ptGap a b = ptDistance a b := by
  unfold ptGap ptDistance
  omega

theorem nearest_mem {α : Type} (dist : α → Nat) : ∀ {l : List α} {x : α}, nearest dist l = some x → x ∈ l
  | [], _, h => by simp [nearest] at h
  | y :: ys, x, h => by
    unfold nearest at h
    split at h
    · simp only [Option.some.injEq] at h
      simp [h]
    · rename_i z hz
      split at h <;> simp only [Option.some.injEq] at h <;> subst h
      · simp
      · exact List.mem_cons_of_mem _ (nearest_mem dist hz)

/-- An item nearer than every item before it, and as near as every item after it, is the nearest (R153, R154). -/
theorem nearest_split {α : Type} (dist : α → Nat) (before after : List α) (c : α)
    (hb : ∀ d ∈ before, dist c < dist d) (ha : ∀ d ∈ after, dist c ≤ dist d) :
    nearest dist (before ++ c :: after) = some c := by
  induction before with
  | nil =>
    rw [List.nil_append]
    unfold nearest
    cases hn : nearest dist after with
    | none => rfl
    | some y => simp [ha y (nearest_mem dist hn)]
  | cons x xs ih =>
    rw [List.cons_append]
    unfold nearest
    rw [ih fun d hd => hb d (List.mem_cons_of_mem _ hd)]
    have := hb x (by simp)
    simp only
    rw [if_neg (by omega)]

/-! ### Claps that end -/

/-- The end of a clap, spelled out (R159). -/
theorem endClap_eq (n : Nat) (s : State) : endClap n s = s.clapEnded n := by
  have h (t : Take) : t.ended = t.unpaired := by
    simp [Take.ended, Take.unpaired, TakeRow.unpair, TakeRow.isPending]
  unfold endClap State.clapEnded
  simp only [removeClap, State.modTake, State.setPairing, satBytes, h, Take.unpairedRows]
  rfl

/-- Several claps end in some order (R107, R163). -/
theorem endClaps_eq (ns : List Nat) (s : State) : ∃ order : List Nat, order.Perm ns ∧
    endClaps ns s = order.foldl State.clapEnded { s with freeDraws := s.freeDraws + 1 } := by
  refine ⟨_, inAnyOrder_perm s.freeDraws id ns, ?_⟩
  unfold endClaps
  congr 1
  funext t n
  exact endClap_eq n t

/-! ### Closes -/

theorem slotClosed_leftBy (slot : Fin 128) (gen : Nat) (t : Take) :
    t.slotClosed slot gen = t.leftBy slot gen := by
  unfold Take.slotClosed Take.leftBy
  split
  · congr 1
    apply List.map_congr_left
    intro r _
    have : r.pendingFor slot gen = r.waitsFor slot gen := rfl
    rw [this]
    split
    · rename_i h
      have hp : r.isPending = true := by
        simp only [TakeRow.waitsFor, Bool.and_eq_true] at h
        exact h.1.1
      simp [TakeRow.unpair, hp]
    · rfl
  · rfl

theorem leftBy_hasPending (slot : Fin 128) (gen : Nat) (t : Take) (h : t.isOpen = true) :
    (!(t.leftBy slot gen).hasPending) = t.rows.all fun r => r.status != .pending || r.waitsFor slot gen := by
  unfold Take.leftBy Take.hasPending
  rw [if_pos h]
  simp only [List.any_map]
  rw [List.not_any_eq_all_not]
  congr 1
  funext r
  by_cases hw : r.waitsFor slot gen
  · simp [hw, TakeRow.isPending]
  · simp [hw, TakeRow.isPending, bne]

theorem takesEmptied_eq (slot : Fin 128) (gen : Nat) (s : State) :
    takesEmptied slot gen s = s.takesWaitingFor slot gen := by
  unfold takesEmptied State.takesWaitingFor
  congr 1
  apply List.filter_congr
  intro t _
  have : TakeRow.pendingFor slot gen = TakeRow.waitsFor slot gen := rfl
  rw [this, slotClosed_leftBy]
  cases h : t.isOpen
  · simp
  · rw [leftBy_hasPending _ _ _ h]

theorem fillSegment_segmentEnded (slot : Fin 128) (e : SegmentEnd) (s : State) :
    fillSegment slot e s = s.segmentEnded (s.ctx slot) e := by
  unfold fillSegment State.segmentEnded
  cases (s.ctx slot).anchor <;> rfl

@[simp] theorem segmentEnded_pairing (s : State) (c : Context) (e : SegmentEnd) :
    (s.segmentEnded c e).pairing = s.pairing := by
  unfold State.segmentEnded; split <;> rfl
@[simp] theorem segmentEnded_freeDraws (s : State) (c : Context) (e : SegmentEnd) :
    (s.segmentEnded c e).freeDraws = s.freeDraws := by
  unfold State.segmentEnded; split <;> rfl

/-- A close, spelled out (R105, R162). -/
theorem closeContext_eq (slot : Fin 128) (s : State) : ∃ order : List Nat,
    order.Perm (s.takesWaitingFor slot (s.ctx slot).gen) ∧ closeContext slot s = s.contextClosed slot order := by
  unfold closeContext slotClosed
  simp only [fillSegment_segmentEnded, takesEmptied_eq]
  let c := s.ctx slot
  let t := (s.segmentEnded c ⟨c.lastCount, c.lastConverted⟩).setCtx slot { c with state := .closed }
  obtain ⟨order, hp, he⟩ := endClaps_eq (t.takesWaitingFor slot c.gen)
    (t.setPairing { s.pairing with takes := s.pairing.takes.map (Take.slotClosed slot c.gen) })
  refine ⟨order, ?_, ?_⟩
  · have h (u : State) (h : u.pairing = s.pairing) :
        u.takesWaitingFor slot c.gen = s.takesWaitingFor slot c.gen := by
      unfold State.takesWaitingFor
      rw [h]
    rwa [h _ (by simp [t])] at hp
  · simp only [setCtx_pairing, segmentEnded_pairing]
    rw [he]
    unfold State.contextClosed
    simp only [State.setPairing, t, setCtx_freeDraws, segmentEnded_freeDraws]
    have h : Take.slotClosed slot c.gen = Take.leftBy slot c.gen := funext fun t => slotClosed_leftBy _ _ _
    rw [h]

/-- What the ending of claps leaves (R159). -/
theorem foldl_clapEnded_keeps (ns : List Nat) (s : State) : let t := ns.foldl State.clapEnded s
    t.contexts = s.contexts ∧ t.mgmt = s.mgmt ∧ t.clock = s.clock ∧ t.freeDraws = s.freeDraws := by
  induction ns generalizing s with
  | nil => exact ⟨rfl, rfl, rfl, rfl⟩
  | cons n ns ih =>
    obtain ⟨h1, h2, h3, h4⟩ := ih (s.clapEnded n)
    refine ⟨h1.trans ?_, h2.trans ?_, h3.trans ?_, h4.trans ?_⟩ <;> simp [State.clapEnded]

/-- What a close leaves, and the one context it changes (R105). -/
theorem contextClosed_keeps (s : State) (i : Fin 128) (order : List Nat) : let t := s.contextClosed i order
    t.contexts = s.contexts.set i { s.ctx i with state := .closed } ∧ t.mgmt = s.mgmt ∧ t.clock = s.clock := by
  unfold State.contextClosed
  obtain ⟨h1, h2, h3, h4⟩ := foldl_clapEnded_keeps order {
    (s.segmentEnded (s.ctx i) ⟨(s.ctx i).lastCount, (s.ctx i).lastConverted⟩).setCtx i
      { s.ctx i with state := .closed } with
    freeDraws := s.freeDraws + 1
    pairing := { s.pairing with takes := s.pairing.takes.map (Take.leftBy i (s.ctx i).gen) } }
  refine ⟨h1.trans ?_, h2.trans ?_, h3.trans ?_⟩ <;>
    (simp only [State.setCtx, State.segmentEnded]; split <;> rfl)

theorem contextClosed_ctx (s : State) (i j : Fin 128) (order : List Nat) (h : j ≠ i) :
    (s.contextClosed i order).ctx j = s.ctx j := by
  have e := (contextClosed_keeps s i order).1
  have : (i : Nat) ≠ j := fun e => h (Fin.ext e.symm)
  unfold State.ctx at e ⊢
  rw [e]
  simp [this]

/-- Several closes, one after the other, spelled out: each ends its claps in some order (R105, R107, R162). -/
theorem closeContexts_eq (l : List (Fin 128)) (hl : l.Nodup) (s : State) : ∃ orders : Fin 128 → List Nat,
    let closed (m : List (Fin 128)) : State := m.foldl (fun u i => u.contextClosed i (orders i)) s
    l.foldl (fun u i => closeContext i u) s = closed l ∧
    (∀ before i after, l = before ++ i :: after →
      (orders i).Perm ((closed before).takesWaitingFor i (s.ctx i).gen)) ∧
    (∀ j, j ∉ l → (closed l).ctx j = s.ctx j) ∧ (closed l).mgmt = s.mgmt ∧ (closed l).clock = s.clock := by
  induction l using List.reverseRecOn with
  | nil => exact ⟨fun _ => [], rfl, by simp, by simp, rfl, rfl⟩
  | append_singleton l i ih =>
    have hn : l.Nodup ∧ i ∉ l := by
      rw [List.nodup_append] at hl
      exact ⟨hl.1, fun h => hl.2.2 i h i (by simp) rfl⟩
    obtain ⟨orders, h1, h2, h3, h4, h5⟩ := ih hn.1
    obtain ⟨order, g1, g2⟩ := closeContext_eq i (l.foldl (fun u i => u.contextClosed i (orders i)) s)
    have hsame (m : List (Fin 128)) (hm : i ∉ m) :
        m.foldl (fun u k => u.contextClosed k (Function.update orders i order k)) s =
          m.foldl (fun u i => u.contextClosed i (orders i)) s := by
      apply List.foldl_ext
      intro u k hk
      rw [Function.update_of_ne (by rintro rfl; exact hm hk)]
    refine ⟨Function.update orders i order, ?_, ?_, ?_, ?_, ?_⟩
    · rw [List.foldl_append, List.foldl_cons, List.foldl_nil, h1, g2]
      simp only []
      rw [List.foldl_append, hsame l hn.2]
      simp
    · intro before k after he
      rcases List.eq_nil_or_concat after with rfl | ⟨a, b, rfl⟩
      · obtain ⟨rfl, e⟩ := List.append_inj' he rfl
        simp only [List.cons.injEq, and_true] at e
        subst e
        simp only []
        rw [hsame l hn.2, Function.update_self, ← h3 i hn.2]
        exact g1
      · rw [List.concat_eq_append, ← List.cons_append, ← List.append_assoc] at he
        obtain ⟨e1, e2⟩ := List.append_inj' he rfl
        have hk : k ≠ i := by rintro rfl; exact hn.2 (by rw [e1]; simp)
        have hb : i ∉ before := fun h => hn.2 (by rw [e1]; simp [h])
        simp only []
        rw [hsame before hb, Function.update_of_ne hk]
        exact h2 before k a e1
    · intro j hj
      simp only [List.mem_append, List.mem_singleton, not_or] at hj
      simp only []
      rw [List.foldl_append, hsame l hn.2]
      simp only [List.foldl_cons, List.foldl_nil]
      rw [contextClosed_ctx _ _ _ _ hj.2, h3 j hj.1]
    · simp only []
      rw [List.foldl_append, hsame l hn.2]
      simp only [List.foldl_cons, List.foldl_nil]
      exact (contextClosed_keeps _ _ _).2.1.trans h4
    · simp only []
      rw [List.foldl_append, hsame l hn.2]
      simp only [List.foldl_cons, List.foldl_nil]
      exact (contextClosed_keeps _ _ _).2.2.trans h5

/-! ### Candidates -/

open Classical in
/-- The claps that a transient may pair with are those it fits (R154). -/
theorem clapCandidates_eq (s : State) (g : Nat) (slot : Fin 128) (pt : Nat) (e : Stored GroupEntry)
    (h : s.groupAt g = some e) : clapCandidates s g slot pt =
      s.pairing.claps.filter fun c => decide (ClapFits s g e.content.pairingWindow slot pt c) := by
  unfold clapCandidates
  apply List.filter_congr
  intro c _
  have hw : pairingWindow s g = e.content.pairingWindow := by simp [pairingWindow, h]
  rw [hw, ← ptGap_eq, Bool.eq_iff_iff]
  unfold ClapFits
  cases s.takeNumbered c.take <;> simp [and_assoc, TakeRow.isPending]

open Classical in
/-- The held transients that a PENDING row may take are those that fit it (R153). -/
theorem heldCandidates_eq (s : State) (t : Take) (slot : Fin 128) (e : Stored GroupEntry)
    (h : s.groupAt t.group = some e) : heldCandidates s t slot =
      s.pairing.held.filter fun x => decide (HeldFits t e.content.pairingWindow slot x) := by
  unfold heldCandidates
  apply List.filter_congr
  intro x _
  have hw : pairingWindow s t.group = e.content.pairingWindow := by simp [pairingWindow, h]
  rw [hw, ← ptGap_eq, Bool.eq_iff_iff]
  unfold HeldFits
  simp [and_assoc]

/-! ### Making a take (R150, R151) -/

/-- The rolling members are the slots that roll (R150). -/
theorem rollingMembers_eq (s : State) (g limit : Nat) (m : ClapMark) :
    rollingMembers s g limit m = (List.finRange 128).filter fun i => decide (s.Rolling g limit m i) := by
  refine List.filter_congr fun i _ => ?_
  rw [Bool.eq_iff_iff]
  simp [isMember, isRolling, Context.isOpen, Option.isSome_iff_ne_none]
  tauto

/-- The row of a rolling member, as R150 gives it. -/
theorem rowFor_eq (s : State) (clapPt : Nat) (i : Fin 128) : rowFor s clapPt i = s.rowOf clapPt i := by
  simp only [rowFor, State.rowOf, countAtClap]
  cases (s.ctx i).anchor <;> cases (s.ctx i).entry.cls <;> rfl

/-- A label day is never empty (Table 1-1). -/
theorem labelDay_pos (p : ClockParams) : 0 < labelDay p := by
  simp only [labelDay, houseRate]
  split <;> split <;> decide

/-- The label difference of a clap, as R151 gives it. -/
theorem labelDifference_eq (s : State) (m : ClapMark) : labelDifference s m = s.labelOff m.label m.pt := by
  have h := labelDay_pos s.clock.params
  simp only [labelDifference, State.labelOff, houseIndex]
  have h0 := Int.emod_nonneg ((indexOfLabel s.clock.params m.label : Int) -
    ((s.settings.epochIndex + m.pt / 1000) % labelDay s.clock.params : Nat)) (Int.natCast_ne_zero.mpr h.ne')
  split
  · congr 1
    split_ifs <;> omega
  · rfl

end Sys2Proof.Laws
end

