-- ==== Sys2Proof/Laws/Params.lean ====
section
/-! SUPPORT. What WRITE_PARAMS stores and takes into use, pair by pair (R21, R27, R182, R184). -/

set_option Elab.async false

namespace Sys2Proof.Laws

open Sys2Proof.Machine

/-! ### Tick lines (R20, R21) -/

/-- A line written off, at its disabled level (R21). -/
def disabledAt (high : Bool) (x : LineState) : LineState := { x with high := high, started := false }

/-- TICKB beside a TICKA: in COMPLEMENT its inverse while it runs (R20). -/
def besideA (m : LineMode) (a b : LineState) : LineState :=
  if m = .complement ∧ b.started then { b with high := !a.high } else b

/-- What the enables in use leave of the lines (R20, R21). -/
theorem applyEnables_eq (s : State) : applyEnables s =
    let a := if s.inUse 53 = 1 then s.lines.a else disabledAt true s.lines.a
    let b := if s.inUse 54 = 1 then s.lines.b else disabledAt false s.lines.b
    { s with lines := { s.lines with a := a, b := besideA s.lines.mode a b } } := by
  simp only [applyEnables, lineEnabled, complementB_eq, beq_iff_eq]
  rfl

theorem besideA_besideA (m : LineMode) (a1 a2 b : LineState) :
    besideA m a2 (besideA m a1 b) = besideA m a2 b := by
  simp only [besideA]
  split_ifs <;> simp_all

theorem disabledAt_besideA (m : LineMode) (a b : LineState) (high : Bool) :
    disabledAt high (besideA m a b) = disabledAt high b := by
  simp only [besideA]
  split_ifs <;> rfl

/-! ### Pairs of a WRITE_PARAMS (R27, R182) -/

/-- The pairs that a payload carries, bytes after the last whole pair disregarded (R27). -/
theorem paramPairs_many (pairs : List (Byte × BitVec 32)) (extra : List Byte) (h : extra.length ≤ 4) :
    paramPairs ((pairs.map fun x => x.1 :: beBytes 4 x.2.toNat).flatten ++ extra) =
      pairs.map fun x => (x.1.toNat, x.2.toNat) := by
  induction pairs with
  | nil =>
    match extra, h with
    | [], _ => rfl
    | [_], _ => rfl
    | [_, _], _ => rfl
    | [_, _, _], _ => rfl
    | [_, _, _, _], _ => rfl
  | cons x xs ih =>
    rw [List.map_cons, List.flatten_cons, List.map_cons, ← ih]
    have h1 := paramPairs_one x.1.toNat x.2 x.1.isLt
    have : byteOf x.1.toNat = x.1 := by simp [byteOf]
    rw [this] at h1
    simp only [beBytes, List.cons_append, List.nil_append, paramPairs] at h1 ⊢
    simp only [List.cons.injEq, and_true] at h1
    rw [h1]

/-- The state with its parameter record replaced (R182). -/
def withRecord (s : State) (v : Vector (BitVec 32) fieldCount) : State := { s with paramRecord := v }

theorem withRecord_inUse (s : State) (v : Vector (BitVec 32) fieldCount) (l : TickLines) (k : Nat) :
    ({ withRecord s v with lines := l } : State).inUse k = (withRecord s v).inUse k := rfl

/-- One field stored, the lines following (R21, R182). -/
theorem storeField_eq (s : State) (v : Vector (BitVec 32) fieldCount) (l : TickLines) (x : Byte × BitVec 32)
    (hx : x.1.toNat < 58) :
    storeField (x.1.toNat, x.2.toNat) { withRecord s v with lines := l } =
      applyEnables { withRecord s (v.set x.1.toNat x.2 hx) with lines := l } := by
  unfold storeField
  rw [dif_pos (show x.1.toNat < fieldCount from hx)]
  simp only [BitVec.ofNat_toNat, BitVec.setWidth_eq]
  rfl

/-- The first `n + 1` pairs stored: `ρ k` is the record after `k` of them, and a line whose enable is off after one
of them is at its disabled level (R21, R182). -/
theorem storeFields_eq (s : State) (pairs : List (Byte × BitVec 32)) (h58 : ∀ x ∈ pairs, x.1.toNat < 58)
    (ρ : Nat → Vector (BitVec 32) fieldCount) (h0 : ρ 0 = s.paramRecord)
    (hS : ∀ (n : Nat) (hn : n < pairs.length),
      ρ (n + 1) = (ρ n).set pairs[n].1.toNat pairs[n].2 (h58 _ (List.getElem_mem hn)))
    (a b : Nat → LineState)
    (ha : ∀ n, a n = if ∀ k < n, (withRecord s (ρ (k + 1))).inUse 53 = 1 then s.lines.a
      else disabledAt true s.lines.a)
    (hb : ∀ n, b n = if ∀ k < n, (withRecord s (ρ (k + 1))).inUse 54 = 1 then s.lines.b
      else disabledAt false s.lines.b)
    (n : Nat) (hn : n + 1 ≤ pairs.length) :
    (pairs.take (n + 1)).foldl (fun s x => storeField (x.1.toNat, x.2.toNat) s) s =
      { withRecord s (ρ (n + 1)) with
        lines := { s.lines with a := a (n + 1), b := besideA s.lines.mode (a (n + 1)) (b (n + 1)) } } := by
  have haS (n) : (if (withRecord s (ρ (n + 1))).inUse 53 = 1 then a n else disabledAt true (a n)) = a (n + 1) := by
    simp only [ha, Nat.lt_succ_iff_lt_or_eq, or_imp, forall_and, forall_eq]
    split_ifs <;> simp_all [disabledAt]
  have hbS (n) : (if (withRecord s (ρ (n + 1))).inUse 54 = 1 then b n else disabledAt false (b n)) = b (n + 1) := by
    simp only [hb, Nat.lt_succ_iff_lt_or_eq, or_imp, forall_and, forall_eq]
    split_ifs <;> simp_all [disabledAt]
  induction n with
  | zero =>
    have g0 : 0 < pairs.length := by omega
    rw [List.take_add_one, List.getElem?_eq_getElem g0]
    simp only [List.take_zero, Option.toList_some, List.nil_append, List.foldl_cons, List.foldl_nil]
    have e : s = { withRecord s (ρ 0) with lines := s.lines } := by rw [h0]; rfl
    rw [show storeField (pairs[0].1.toNat, pairs[0].2.toNat) s = storeField (pairs[0].1.toNat, pairs[0].2.toNat)
      { withRecord s (ρ 0) with lines := s.lines } from congrArg _ e]
    rw [storeField_eq _ _ _ _ (h58 _ (List.getElem_mem g0)), ← hS 0 g0, applyEnables_eq]
    have e1 := haS 0
    have e2 := hbS 0
    rw [show a 0 = s.lines.a by simp [ha]] at e1
    rw [show b 0 = s.lines.b by simp [hb]] at e2
    rw [← e1, ← e2]
    rfl
  | succ n ih =>
    have g0 : n + 1 < pairs.length := by omega
    rw [List.take_add_one, List.getElem?_eq_getElem g0]
    simp only [Option.toList_some, List.foldl_append, List.foldl_cons, List.foldl_nil]
    rw [ih (by omega), storeField_eq _ _ _ _ (h58 _ (List.getElem_mem g0)), ← hS (n + 1) g0, applyEnables_eq]
    simp only [withRecord_inUse]
    have e1 := haS (n + 1)
    have e2 := hbS (n + 1)
    have eb : besideA s.lines.mode (a (n + 1 + 1))
        (if (withRecord s (ρ (n + 1 + 1))).inUse 54 = 1 then besideA s.lines.mode (a (n + 1)) (b (n + 1))
          else disabledAt false (besideA s.lines.mode (a (n + 1)) (b (n + 1)))) =
        besideA s.lines.mode (a (n + 1 + 1)) (b (n + 1 + 1)) := by
      rw [← e2]
      split_ifs
      · rw [besideA_besideA]
      · rw [disabledAt_besideA]
    rw [← eb, ← e1]
    rfl

/-- A write's end, once every field is stored: the live fields named are judged (R184). -/
theorem writeFields_eq (s : State) (xs : List (Nat × Nat)) (t : State) (l : TickLines) (bad : List Nat)
    (d : Vector Bool fieldCount)
    (hfull : xs.foldl (fun s x => storeField x s) s = { t with lines := l })
    (hbad : (liveNamed xs).filter (fun c => !fieldValid c (t.param c)) = bad)
    (hdf : rewriteDefaulted (liveNamed xs) bad t.defaulted = d) :
    writeFields xs s = raiseDefaulted bad { t with lines := l, defaulted := d, faultn := t.alarmRaised } := by
  have hp : ∀ c, ({ t with lines := l } : State).param c = t.param c := fun _ => rfl
  unfold writeFields
  simp only [hfull, hp, hbad]
  rw [← hdf]
  rfl

end Sys2Proof.Laws
end

