-- ==== Sys2Proof/Laws/Replies.lean ====
section
/-! SUPPORT. What the Anchor Log covers (R129), and how replies fill their cells (R27, R138, R192). -/

set_option Elab.async false

namespace Sys2Proof.Laws

open Sys2Proof.Machine

/-! ### Coverage (R129) -/

theorem coversPt_iff (s : State) (e : LogEntry) (h : Nat) : coversPt s e h = true ↔ e.CoversPt s h := by
  unfold coversPt LogEntry.CoversPt endsBeforeAnchor segmentEndCount segmentEndPt
  cases e.ending <;> simp only [decide_eq_true_eq] <;> split <;> simp

theorem coversCount_iff (s : State) (e : LogEntry) (c : Nat) :
    coversCount s e c = true ↔ e.CoversCount s c := by
  unfold coversCount LogEntry.CoversCount endsBeforeAnchor segmentEndCount countsForward
  simp only [decide_eq_true_eq]
  cases e.ending <;> dsimp only <;> split <;> simp

/-- The last item that a filter keeps, when none after it is kept. -/
theorem getLast?_filter_split {α : Type} (p : α → Bool) (before after : List α) (x : α) (h : p x = true)
    (ha : ∀ y ∈ after, p y = false) : ((before ++ x :: after).filter p).getLast? = some x := by
  have : after.filter p = [] := List.filter_eq_nil_iff.mpr fun y hy => by simp [ha y hy]
  simp [h, this]

/-- The entry that decides a LOCATE_TIME (R129, R133). -/
theorem newestAtPt_eq (s : State) (slot : Fin 128) (h : Nat) :
    ((∀ e ∈ s.log.entries, e.slot = slot → ¬ e.CoversPt s h) → newestAtPt s slot h = none) ∧
    (∀ before e after, s.log.entries = before ++ e :: after → e.slot = slot → e.CoversPt s h →
      (∀ x ∈ after, x.slot = slot → ¬ x.CoversPt s h) → newestAtPt s slot h = some e) := by
  simp only [newestAtPt, slotEntries, List.filter_filter, ← coversPt_iff]
  constructor
  · intro g
    rw [List.getLast?_eq_none_iff, List.filter_eq_nil_iff]
    intro e he hc
    simp at hc
    exact g e he hc.2 hc.1
  · intro before e after hl h1 h2 h3
    rw [hl]
    refine getLast?_filter_split _ _ _ _ (by simp [h1, h2]) fun y hy => ?_
    by_cases hs : y.slot = slot
    · simp [Bool.eq_false_iff.mpr (h3 y hy hs)]
    · simp [hs]

/-- The entry that decides a LOCATE_COUNT (R129, R135). -/
theorem newestAtCount_eq (s : State) (slot : Fin 128) (c : Nat) :
    ((∀ e ∈ s.log.entries, e.slot = slot → ¬ e.CoversCount s c) → newestAtCount s slot c = none) ∧
    (∀ before e after, s.log.entries = before ++ e :: after → e.slot = slot → e.CoversCount s c →
      (∀ x ∈ after, x.slot = slot → ¬ x.CoversCount s c) → newestAtCount s slot c = some e) := by
  simp only [newestAtCount, slotEntries, List.filter_filter, ← coversCount_iff]
  constructor
  · intro g
    rw [List.getLast?_eq_none_iff, List.filter_eq_nil_iff]
    intro e he hc
    simp at hc
    exact g e he hc.2 hc.1
  · intro before e after hl h1 h2 h3
    rw [hl]
    refine getLast?_filter_split _ _ _ _ (by simp [h1, h2]) fun y hy => ?_
    by_cases hs : y.slot = slot
    · simp [Bool.eq_false_iff.mpr (h3 y hy hs)]
    · simp [hs]

/-! ### Cells of a reply (R27, R138, R192) -/

/-- Take rows three to a cell (R138). -/
theorem rowCells_eq : ∀ l : List TakeRow, rowCells l =
    (List.range ((l.length + 2) / 3)).map fun j => (((l.drop (3 * j)).take 3).map rowBytes).flatten
  | [] => rfl
  | [_] => by simp [rowCells]
  | [_, _] => by simp [rowCells]
  | a :: b :: c :: rest => by
    have h : ((a :: b :: c :: rest).length + 2) / 3 = (rest.length + 2) / 3 + 1 := by simp; omega
    rw [rowCells, rowCells_eq rest, h, List.range_succ_eq_map]
    simp [Function.comp_def, Nat.mul_add]

/-- Class records four to a cell (R192). -/
theorem recordCells_eq : ∀ l : List (List Byte), recordCells l =
    (List.range ((l.length + 3) / 4)).map fun j => ((l.drop (4 * j)).take 4).flatten
  | [] => rfl
  | [_] => by simp [recordCells]
  | [_, _] => by simp [recordCells]
  | [_, _, _] => by simp [recordCells]
  | a :: b :: c :: d :: rest => by
    have h : ((a :: b :: c :: d :: rest).length + 3) / 4 = (rest.length + 3) / 4 + 1 := by simp; omega
    rw [recordCells, recordCells_eq rest, h, List.range_succ_eq_map]
    simp [Function.comp_def, Nat.mul_add]

/-- The part headers of a reply whose first cell is followed by `n` others (R27). -/
theorem withPartHeaders_cons (first : List Byte) (n : Nat) (f : Nat → List Byte) :
    withPartHeaders (first :: (List.range n).map f) =
      ([0, byteOf (n + 1)] ++ first) :: (List.range n).map fun j => byteOf (j + 1) :: f j := by
  simp only [withPartHeaders, List.mapIdx_cons, if_true, List.length_cons, List.length_map,
    List.length_range]
  congr 1
  apply List.ext_getElem <;> simp

/-- Fields that fit join the cell in hand (R27). -/
theorem packFields_fits (fs : List (List Byte)) :
    ∀ (room : Nat) (cell : List Byte), (fs.map List.length).sum ≤ room →
    packFields room cell fs = [cell ++ fs.flatten] := by
  induction fs with
  | nil => intro room cell _; simp [packFields]
  | cons f fs ih =>
    intro room cell h
    simp only [List.map_cons, List.sum_cons] at h
    rw [packFields, if_pos (by omega), ih _ _ (by omega)]
    simp

/-- The first field that does not fit begins the next cell (R27). -/
theorem packFields_split (fs : List (List Byte)) (g : List Byte) (gs : List (List Byte)) :
    ∀ (room : Nat) (cell : List Byte), (fs.map List.length).sum ≤ room → room < (fs.map List.length).sum + g.length →
    packFields room cell (fs ++ g :: gs) = (cell ++ fs.flatten) :: packFields (52 - g.length) g gs := by
  induction fs with
  | nil =>
    intro room cell _ h
    rw [List.nil_append, packFields, if_neg (by simp at h; omega)]
    simp
  | cons f fs ih =>
    intro room cell h h1
    simp only [List.map_cons, List.sum_cons] at h h1
    rw [List.cons_append, packFields, if_pos (by omega), ih _ _ (by omega) (by omega)]
    simp

/-- Which bits a bit mask of fields in the making has (R27). -/
theorem foldl_or_testBit (l : List Nat) (acc c : Nat) :
    (l.foldl (fun acc n => acc ||| 2 ^ n) acc).testBit c = (acc.testBit c || l.contains c) := by
  induction l generalizing acc with
  | nil => simp
  | cons x xs ih =>
    rw [List.foldl_cons, ih, Nat.testBit_or, Nat.testBit_two_pow, List.contains_cons, Bool.or_assoc]
    congr 2
    rw [Bool.eq_iff_iff, decide_eq_true_eq, beq_iff_eq]
    exact eq_comm

/-- The bit mask of a list of fields names those fields (R27). -/
theorem maskBytes_bits (w : Nat) (l : List Nat) :
    ∃ m, maskBytes w l = beBytes w m ∧ ∀ c, m.testBit c = l.contains c :=
  ⟨_, rfl, fun c => by rw [foldl_or_testBit]; simp⟩

end Sys2Proof.Laws
end

