-- ==== Sys2Proof/Laws/Scrub.lean ====
section
/-! SUPPORT. What a check of a Table Store position and the Scrubber's visits do (R58, R59, R62 to R64). -/

set_option Elab.async false

namespace Sys2Proof.Laws

open Sys2Proof Sys2Proof.Machine

/-! ### What a check keeps -/

@[simp] theorem clapEnded_tables (n : Nat) (s : State) : (s.clapEnded n).tables = s.tables := by
  simp [State.clapEnded]

theorem foldl_clapEnded_tables (ns : List Nat) (s : State) :
    (ns.foldl State.clapEnded s).tables = s.tables := by
  induction ns generalizing s with
  | nil => rfl
  | cons n ns ih => rw [List.foldl_cons, ih, clapEnded_tables]

@[simp] theorem endClaps_tables (ns : List Nat) (s : State) : (endClaps ns s).tables = s.tables := by
  obtain ⟨order, _, h⟩ := endClaps_eq ns s
  rw [h, foldl_clapEnded_tables]

@[simp] theorem segmentEnded_tables (s : State) (c : Context) (e : SegmentEnd) :
    (s.segmentEnded c e).tables = s.tables := by
  unfold State.segmentEnded; split <;> rfl

@[simp] theorem closeContext_tables (slot : Fin 128) (s : State) :
    (closeContext slot s).tables = s.tables := by
  unfold closeContext slotClosed
  simp [fillSegment_segmentEnded]

@[simp] theorem sourceDamaged_tables (slot : Fin 128) (s : State) :
    (sourceDamaged slot s).tables = s.tables := by
  unfold sourceDamaged
  dsimp only
  split
  · split <;> simp
  · rfl

/-- A check leaves the scrub position where it is (R58). -/
theorem checkPosition_scrubPos (n : Nat) (s : State) :
    (checkPosition n s).tables.scrubPos = s.tables.scrubPos := by
  unfold checkPosition checkMap checkSource checkGroup
  split
  · split
    · split <;> simp [raiseDamage, State.setMap]
    · rfl
  · split
    · split
      · split <;> simp [raiseDamage, State.setSource]
      · rfl
    · split
      · split
        · split <;> simp [raiseDamage, State.setGroup, groupDamaged]
        · rfl
      · rfl

/-! ### What a check does -/

/-- The check of a position is what R58 and the damage actions say. -/
theorem checkPosition_leaves (n : Nat) (s : State) : CheckLeaves n s (checkPosition n s) := by
  refine ⟨checkPosition_whole s n, ?_, ?_, ?_⟩
  · intro h e he hd hg
    simp only [checkPosition, h, dif_pos, checkMap, he]
    rw [if_pos (by simp [checkFails, hd, hg])]
    rfl
  · intro i e hn he hd hg s1
    have hp : checkPosition n s = sourceDamaged i s1 := by
      subst hn
      unfold checkPosition
      rw [dif_neg (by omega), dif_pos (by omega)]
      have : (⟨256 + (i : Nat) - 256, by omega⟩ : Fin 128) = i := by ext; simp
      rw [this]
      simp only [checkSource, he]
      rw [if_pos (by simp [checkFails, hd, hg])]
      rfl
    have hc : s1.ctx i = s.ctx i := by unfold State.ctx; simp [s1]
    have hset : s1.settings = s.settings := by simp [s1]
    rw [hp]
    refine ⟨?_, ?_, ?_⟩
    · intro h1; simp [sourceDamaged, hc, Context.isOpen, h1]
    · intro h1 h2; simp [sourceDamaged, hc, Context.isOpen, h1, hset, h2]
    · intro h1 h2
      obtain ⟨order, h3, h4⟩ := closeContext_eq i s1
      refine ⟨order, ?_, ?_⟩
      · have : s1.takesWaitingFor i (s1.ctx i).gen = s.takesWaitingFor i (s.ctx i).gen := by
          rw [hc]
          unfold State.takesWaitingFor
          have : s1.pairing = s.pairing := by simp [s1]
          rw [this]
        rwa [this] at h3
      · simp [sourceDamaged, hc, Context.isOpen, h1, hset, h2, h4]
  · intro i e hn he hd hg ended
    let s1 := raise .tableDamage [2, byteOf (i + 1)] (s.setGroup i (some { e with damaged := true }))
    have hp : checkPosition n s = groupDamaged (i + 1) s1 := by
      subst hn
      unfold checkPosition
      rw [dif_neg (by omega), dif_neg (by omega), dif_pos (by omega)]
      have : (⟨384 + (i : Nat) - 384, by omega⟩ : Fin 16) = i := by ext; simp
      rw [this]
      simp only [checkGroup, he]
      rw [if_pos (by simp [checkFails, hd, hg])]
      rfl
    rw [hp]
    unfold groupDamaged
    obtain ⟨order, h1, h2⟩ := endClaps_eq
      ((s1.pairing.claps.filter fun c => c.group == (i : Nat) + 1).map PendingClap.take) s1
    refine ⟨order, ?_, ?_⟩
    · have : s1.pairing = s.pairing := by simp [s1]
      rwa [this] at h1
    · have : s1.freeDraws = s.freeDraws := by simp [s1]
      rw [h2, this]

/-- The last of several visits. -/
theorem scrub_last (n : Nat) (s : State) : scrub (n + 1) s = scrubOne (scrub n s) := by
  induction n generalizing s with
  | zero => rfl
  | succ n ih => exact ih (scrubOne s)

/-- The Scrubber's visits, one after the other (R59). -/
theorem scrub_visits (visits : Nat) (s : State) (hp : s.tables.scrubPos < 400) :
    ∃ f : Nat → State, f 0 = s ∧ ScrubVisits visits f ∧ scrub visits s = f visits := by
  refine ⟨fun j => scrub j s, rfl, ?_, rfl⟩
  have hpos (j : Nat) : (scrub j s).tables.scrubPos = (s.tables.scrubPos + j) % 400 := by
    induction j generalizing s with
    | zero => simp [scrub, Nat.mod_eq_of_lt hp]
    | succ j ih =>
      rw [scrub, ih (scrubOne s) (by simp only [scrubOne]; omega)]
      simp only [scrubOne]
      omega
  intro j _
  refine ⟨checkPosition ((s.tables.scrubPos + j) % 400) (scrub j s), checkPosition_leaves _ _, ?_⟩
  show scrub (j + 1) s = _
  rw [scrub_last, scrubOne, hpos]
  simp only [State.mk.injEq, Tables.mk.injEq, true_and, and_true]
  show _ = (s.tables.scrubPos + j + 1) % 400
  omega

end Sys2Proof.Laws
end

