-- ==== Sys2Proof/Laws/Tracking.lean ====
section
/-! SUPPORT. When a PACE mark advances its source by whole strides (R109). -/

set_option Elab.async false

namespace Sys2Proof.Laws

open Sys2Proof.Machine

/-- A count difference of j strides, j from 1 to the gap limit, is a normal mark's (R109). -/
theorem stridesOf_eq (w : SourceEntry) (d : Int) (j : Nat) (h : 1 ≤ w.stride) (h1 : 1 ≤ j)
    (h2 : j ≤ w.gapLimit) (hd : d = (j : Int) * w.stride) : stridesOf w d = some j ∧ d ≠ 0 := by
  have hp : (0 : Int) < w.stride := by exact_mod_cast h
  subst hd
  constructor
  · unfold stridesOf
    rw [Int.mul_ediv_cancel _ (by omega), if_pos ⟨by positivity, by simp, by exact_mod_cast h2⟩]
    simp
  · positivity

/-- Any other count difference is a jump's (R109, R112). -/
theorem stridesOf_none (w : SourceEntry) (d : Int) (h : 1 ≤ w.stride)
    (hn : ¬ ∃ j : Nat, 1 ≤ j ∧ j ≤ w.gapLimit ∧ d = (j : Int) * w.stride) : stridesOf w d = none := by
  have hp : (0 : Int) < w.stride := by exact_mod_cast h
  unfold stridesOf
  rw [if_neg]
  rintro ⟨a, b, c⟩
  apply hn
  have hm : d / w.stride * w.stride = d := Int.ediv_mul_cancel (Int.dvd_of_emod_eq_zero b)
  have hq : 0 < d / w.stride := by
    by_contra hq
    have hle : d / w.stride ≤ 0 := by omega
    nlinarith
  refine ⟨(d / w.stride).toNat, by omega, by omega, ?_⟩
  rw [Int.toNat_of_nonneg hq.le, hm]

end Sys2Proof.Laws
end

