-- ==== Sys2Proof/Tests/Slice0.lean ====
section
/-! SUPPORT. The model's own tests: the operand checks, the manual's worked cases, one step of each command, and for
every statement with hypotheses a state that meets them. Expected values come from the manual's worked cases and
tables, or from calculation by hand from its rules; each group names its source. -/

set_option Elab.async false

namespace Sys2Proof.Tests

open Sys2Proof Sys2Proof.Machine

/-! ### Operand checks: an ill-formed operand of each kind is refused -/

theorem test_slot_128_ill_formed : (Instr.silenceExpiry 128).wellFormed = false := by decide
theorem test_slot_127_well_formed : (Instr.silenceExpiry 127).wellFormed = true := by decide
theorem test_take_0_ill_formed : (Instr.clapDeadline 0).wellFormed = false := by decide
theorem test_take_65536_ill_formed : (Instr.clapDeadline 65536).wellFormed = false := by decide
theorem test_take_65535_well_formed : (Instr.clapDeadline 65535).wellFormed = true := by decide
theorem test_place_16_ill_formed : (Instr.transientDeadline 16).wellFormed = false := by decide
theorem test_place_15_well_formed : (Instr.transientDeadline 15).wellFormed = true := by decide
theorem test_empty_wire_ill_formed : (Instr.cellArrival .stage []).wellFormed = false := by decide
theorem test_one_byte_wire_well_formed : (Instr.cellArrival .post [0]).wellFormed = true := by decide

/-- No row of the table has bits, so no word spells a command. -/
theorem test_no_word_spells_a_command : decodeTableWord 0 0 = none ∧ decodeTableWord 32 12345 = none := by
  decide

/-! ### Labels: the worked label cases of 01, section 1.3 -/

def code3drop : ClockParams := { rate := 3, dropFrame := true }
def code7drop : ClockParams := { rate := 7, dropFrame := true }

theorem test_label_1799 : labelOfIndex code3drop 1799 = ⟨0, 0, 59, 29⟩ := by decide
theorem test_label_1800 : labelOfIndex code3drop 1800 = ⟨0, 1, 0, 2⟩ := by decide
theorem test_label_17982 : labelOfIndex code3drop 17982 = ⟨0, 10, 0, 0⟩ := by decide
theorem test_label_115088 : labelOfIndex code7drop 115088 = ⟨0, 32, 0, 4⟩ := by decide
theorem test_index_115088 : indexOfLabel code7drop ⟨0, 32, 0, 4⟩ = 115088 := by decide
theorem test_dropped_label_invalid : labelValid code3drop ⟨0, 1, 0, 1⟩ = false := by decide
theorem test_epoch_index : indexOfLabel {} ⟨1, 0, 0, 0⟩ = 86400 := by decide
theorem test_epoch_label : labelOfIndex {} (86400 + 5719) = ⟨1, 3, 58, 7⟩ := by decide
theorem test_day_wraps :
    labelOfIndex { rate := 2 } ((2159999 + 26) % labelDay { rate := 2 }) = ⟨0, 0, 1, 0⟩ := by decide

/-! ### Conversions: the worked cases and limits of 04, sections 4.3, 4.4 and 4.6 -/

def recorder48k : Conversion :=
  { rate := 0, rn := 48000000, rd := 1000, trim := 2500, c0 := 10000000, pt0 := 5000000 }

def camera24 : Conversion :=
  { rate := 1, rn := 24000, rd := 1000, trim := 0, c0 := 1099511627766, pt0 := 40000 }

def fastSource : Conversion :=
  { rate := 8, rn := 200000000, rd := 1000, trim := 0, c0 := 0, pt0 := 0 }

theorem test_forward_worked : forward recorder48k false 11440000 = ⟨5719283, false⟩ := by decide
theorem test_reverse_worked : reverse recorder48k false 5719283 = some ⟨11440001, false⟩ := by decide
theorem test_forward_wrap : forward camera24 false 5 = ⟨55000, false⟩ := by decide
theorem test_forward_below_0 : forward camera24 false 1099511627700 = ⟨0, true⟩ := by decide
theorem test_forward_above_max :
    forward camera24 false 549755813877 = ⟨281474976710655, true⟩ := by decide
theorem test_forward_first_negative : forward camera24 false 549755813878 = ⟨0, true⟩ := by decide
theorem test_reverse_at_0 : reverse camera24 false 0 = some ⟨1099511627726, false⟩ := by decide
theorem test_reverse_half_up : reverse camera24 false 40500 = some ⟨1099511627767, false⟩ := by decide
theorem test_reverse_half_down : reverse camera24 false 39500 = some ⟨1099511627766, false⟩ := by decide
theorem test_reverse_last_in_range :
    reverse fastSource false 164926744166 = some ⟨549755813887, false⟩ := by decide
theorem test_reverse_out_of_range : reverse fastSource false 164926744167 = none := by decide

/-! ### Small states for the tests -/

/-- The part in a device state with node address 5 (in BOOT it has none, in ADDRESSING 0). -/
def inState (d : DeviceState) : State :=
  { State.reset with
    mgmt := { device := d
              address := match d with
                | .boot => none
                | .addressing => some 0
                | .configuring | .starting | .running => some 5 }
    boot := { reading := false, readGood := true } }

/-- The camera of the worked sequence of 05, section 5.8. -/
def camera : SourceEntry :=
  { tag := List.replicate 8 65, cls := .camera, rn := 24000, rd := 1001, stride := 1, latency := 1500
    silenceLimit := 48, gapLimit := 4, window := 4, gain := 50, lockTol := 5, slipTol := 40
    trimLimit := 100000, initialTrim := 0, adjustLimit := 2000, group := 2, autoOpen := true }

/-- RUNNING at PT 101,003 in milliframe 3, key (14, 0) at position 224 naming slot 3, which holds the camera. -/
def live : State :=
  { ((inState .running).setSource 3 (fresh camera)).setMap 224 (fresh ⟨⟨14, 0⟩, 3⟩) with
    clock := { now := 4000, phase := 4000, k := 3, pt := 101003 } }

/-- The camera's context after the first mark of the worked sequence. -/
def anchoredCtx : Context :=
  { state := .acquiring, work := some camera, gen := 1, anchor := some ⟨1000, 100000, 0⟩
    lastCount := 1000, lastArrival := 101500, lastConverted := 100000, silence := 48, marks := 1 }

/-- The Log entry of that mark's anchor. -/
def firstEntry : LogEntry :=
  { seq := 0, slot := 3, gen := 1, reason := .opened, c0 := 1000, pt0 := 100000, trim := 0, adjust := 0
    rn := 24000, rd := 1001, ending := none }

/-- `live` after that mark. -/
def anchored : State :=
  { live.setCtx 3 anchoredCtx with log := { entries := [firstEntry], nextSeq := 1 } }

/-- `anchored` with the camera's context changed. -/
def anchoredWith (f : Context → Context) : State := anchored.setCtx 3 (f anchoredCtx)

/-- A good cell: header, payload and check. -/
def cell (dest origin : Byte) (kind stream : Nat) (payload : List Byte) : Cell :=
  let body := [dest, origin, byteOf (kind * 16 + stream), 0, byteOf payload.length] ++ payload
  body ++ [crc body]

/-- A PACE mark of key (14, 0). -/
def paceCell (count : Nat) : Cell := cell 0 14 1 0 (beBytes 5 count)

/-- The state with a cell's header taken at Port S at a picture time. -/
def headed (pt : Nat) (s : State) : State :=
  { s with portS := { s.portS with header := some ⟨pt, false, false⟩ } }

/-- A request from node 200 at Port S with tag 9. -/
def ask (kind : Nat) (args : List Byte) : Request :=
  { kind := kind, tag := 9, args := args, origin := 200, port := .stage, broadcast := false }

/-- The state with a request next for the Management Unit. -/
def asked (r : Request) (s : State) : State := { s with mgmt := { s.mgmt with inbox := [r] } }

/-- The state with a request next for the Locate Unit. -/
def searched (r : Request) (s : State) : State := { s with locate := { s.locate with queue := [r] } }

/-- The state that a command leaves. -/
def after (c : Instr) (s : State) : State :=
  match exec c s with
  | .next t => t
  | .fault _ | .refused _ => s

/-- The reply cells' payloads that a request command fixes. -/
def answer (c : Instr) (s : State) : Option (List (List Byte)) := (after c s).mgmt.handling

/-- Thirty-two cells: a full egress queue. -/
def fullQueue : List Cell := List.replicate 32 []

/-! ### The link: R28's check by hand, and the worked sequences of 02, section 2.6, and 05, section 5.8 -/

/-- One bit of the check by hand: register FF, bit 1: combined 0, shifted FE. -/
theorem test_crc_bit_no_feedback : crcBit 0xFF#8 true = 0xFE#8 := by decide
/-- Register FF, bit 0: combined 1, shifted FE, xor 2F: D1. -/
theorem test_crc_bit_feedback : crcBit 0xFF#8 false = 0xD1#8 := by decide

/-- The published check value of this polynomial and start (CRC-8/AUTOSAR has a final inversion, DF) over the nine
digits "123456789" without the inversion: DF inverted is 20. -/
theorem test_crc_digits : crc [49, 50, 51, 52, 53, 54, 55, 56, 57] = 0x20#8 := by
  decide +kernel

/-- Row 1 of the worked camera sequence: the mark opens the context and is stamped 100,000, 00:00:04:04, ANCHORED,
slot 3. -/
theorem test_cellArrival_first_pace :
    let t := after (.cellArrival .stage (paceCell 1000)) (headed 101500 live)
    (t.ctx 3).anchor = some ⟨1000, 100000, 0⟩ ∧
      t.portP.queue.map (fun w => field w 10 12) = [beBytes 6 100000 ++ [0, 0, 4, 4, 2, 3]] := by
  decide +kernel

/-- Row 2: a normal mark with error -3, stamped 101,000, 00:00:04:05, TRACKING. -/
theorem test_cellArrival_normal_pace :
    let t := after (.cellArrival .stage (paceCell 1001)) (headed 102503 anchored)
    (t.ctx 3).windowSum = -3 ∧ (t.ctx 3).windowCount = 1 ∧
      t.portP.queue.map (fun w => field w 10 12) = [beBytes 6 101000 ++ [0, 0, 4, 5, 1, 3]] := by
  decide +kernel

/-- Row 4's gap of 2 counts one missed mark; row 5's gap of 197 is a jump. -/
theorem test_pace_gap_and_jump :
    ((pace 3 1002 103505 anchored).state.ctx 3).missed = 1 ∧
      ((pace 3 1197 105500 anchored).state.ctx 3).jumps = 1 := by decide +kernel

/-- A slate clap on a LOST context (05, section 5.8): 50,500 converts to 600,000, STALE. -/
theorem test_event_mark_on_lost_context :
    eventStamp { live with clock := { live.clock with pt := 700000 } }
      { anchoredCtx with
        state := .lost, work := some { camera with rn := 30000, rd := 1001, latency := 0 }
        anchor := some ⟨50000, 200000, 0⟩ } 50500 700000 = ⟨600000, .stale⟩ := by decide +kernel

/-- The header's PT is the present PT. -/
theorem test_cellHeaderComplete :
    (after (.cellHeaderComplete .stage) live).portS.header = some ⟨101003, false, false⟩ := by decide +kernel

/-- The oldest cell is sent first. -/
theorem test_cellSendStart :
    let t := after (.cellSendStart .post) { live with portP := { queue := [[1], [2]] } }
    t.portP.sending = some [1] ∧ t.portP.queue = [[2]] := by decide +kernel

theorem test_cellSendEnd :
    (after (.cellSendEnd .post) { live with portP := { sending := some [1] } }).portP.sending = none := by
  decide +kernel

theorem test_transmitterHoldOff :
    let t := after (.transmitterHoldOff .post) { live with portP := { queue := [[1]] } }
    (after (.cellSendStart .post) t).portP.sending = none := by decide +kernel

theorem test_transmitterHoldOffEnd :
    let t := after (.transmitterHoldOffEnd .post) { live with portP := { queue := [[1]], heldOff := true } }
    (after (.cellSendStart .post) t).portP.sending = some [1] := by decide +kernel

/-! ### Tracking: the worked window of 06, section 6.5, and the worked clap correction of section 6.7 -/

/-- The LOCKED camera before the fourth mark is absorbed into the window. -/
def windowCtx : Context :=
  { anchoredCtx with
    state := .locked, anchor := some ⟨5000, 300000, 0⟩, trim := 2500, windowCount := 4, windowSum := 18
    lastCount := 5004, lastArrival := 305494, lastConverted := 304000 }

theorem test_windowClose_worked :
    let t := windowClose 3 5004 304000 (anchored.setCtx 3 windowCtx)
    (t.ctx 3).trim = 2300 ∧ (t.ctx 3).anchor = some ⟨5004, 303999, 1⟩ ∧ (t.ctx 3).state = .locked ∧
      (t.log.entries.map LogEntry.ending) = [some ⟨5004, 304000⟩, none] := by decide +kernel

/-- The errors +8, +9, +7 and +8: mean 8, trim 2,100, pull 2, DRIFTING. -/
theorem test_windowClose_drifts :
    let t := windowClose 3 5004 304000 (anchored.setCtx 3 { windowCtx with windowSum := 32 })
    (t.ctx 3).trim = 2100 ∧ (t.ctx 3).anchor = some ⟨5004, 303998, 1⟩ ∧
      (t.ctx 3).state = .drifting := by decide +kernel

/-- The recorder of the worked clap correction. -/
def recorder : SourceEntry :=
  { camera with
    cls := .recorder, rn := 48000000, stride := 4800, latency := 400, adjustLimit := 2000 }

def recorderCtx : Context :=
  { anchoredCtx with
    state := .locked, work := some recorder, anchor := some ⟨1000000, 80000, 0⟩, lastCount := 1009600
    lastArrival := 85205, lastConverted := 84800 }

theorem test_clapReanchor_worked :
    let t := clapReanchor 3 1010000 85012 12 (anchored.setCtx 3 recorderCtx)
    (t.ctx 3).anchor = some ⟨1010000, 85012, 1⟩ ∧ (t.ctx 3).adjust = -12 ∧
      (t.ctx 3).effective = 388 ∧ (t.ctx 3).lastCount = 1009600 ∧
      (t.log.entries.map LogEntry.ending) = [some ⟨1010000, 85000⟩, none] := by decide +kernel

theorem test_clapReanchor_limits :
    clapReanchorRefused { recorderCtx with adjust := 1995 } 12 = false ∧
      clapReanchorRefused { recorderCtx with adjust := -1995 } 12 = true := by decide

theorem test_silenceExpiry :
    let t := after (.silenceExpiry 3) (anchoredWith fun c => { c with silence := 0 })
    (t.ctx 3).state = .lost ∧ (t.events[3]).detail = some (3 :: beBytes 6 101500) := by decide +kernel

/-! ### The House Clock: the worked lock sequence of 01, section 1.6 -/

/-- Code 2 EXTERNAL, the last pulse at cycle `last`, the present at cycle `now`. -/
def pulsed (clock : ClockState) (last now good : Nat) : State :=
  { inState .configuring with
    clock := { now := now, period := 1080000, params := { rate := 2, externalRef := true }, state := clock }
    monitor := { last := some last, missing := true, good := good } }

theorem test_refinPulse_noise :
    let t := after .refinPulse (pulsed .seeking 1080010 1083000 1)
    t.monitor.noise = 1 ∧ t.monitor.good = 1 := by decide +kernel

theorem test_refinPulse_bad :
    let t := after .refinPulse (pulsed .seeking 2162700 3246000 2)
    t.monitor.good = 0 ∧ t.monitor.armed = false ∧
      (t.events[2]).detail = some (beBytes 4 1083300) := by decide +kernel

/-- The locking pulse at milliframe 231 of a run holds PT; at milliframe 612 it steps to 89,000. -/
theorem test_lock_holds :
    let s := pulsed .seeking 6486000 7566000 3
    let t := after .refinPulse { s with
      mgmt := { s.mgmt with device := .running }
      clock := { s.clock with k := 231, phase := 249600, pt := 88231 } }
    t.clock.state = .locked ∧ t.clock.hold = 231 ∧ t.clock.pt = 88231 ∧
      (t.events[0]).detail = some (1 :: beBytes 2 231) := by decide +kernel

theorem test_lock_steps :
    let s := pulsed .seeking 6486000 7566000 3
    let t := after .refinPulse { s with
      mgmt := { s.mgmt with device := .running }
      clock := { s.clock with k := 612, phase := 661000, pt := 88612 } }
    t.clock.pt = 89000 ∧ t.clock.k = 0 ∧ (t.events[0]).detail = some (0 :: beBytes 2 388) := by
  decide +kernel

/-- 3 x 1 x 1,080,000 cycles after the last accepted pulse the missing timer expires. -/
theorem test_missingTimerExpiry :
    let t := after .missingTimerExpiry (pulsed .locked 1000 3241000 0)
    t.clock.state = .holdover ∧ (t.events[1]).detail = some [0] := by decide +kernel

/-- R2: milliframe 4 of the frame begins at 4 x 1,126,125 / 1000 = 4,504 cycles. -/
theorem test_milliframeBoundary :
    let t := after .milliframeBoundary live
    t.clock.phase = 4504 ∧ t.clock.k = 4 ∧ t.clock.pt = 101004 := by decide +kernel

/-- R3: the frame's end comes at PT 102,000 with a frame begun. -/
theorem test_frameBoundary :
    let s : State := { live with clock := { live.clock with phase := 1125500, k := 999, pt := 101999 } }
    let t := after .frameBoundary s
    t.clock.pt = 102000 ∧ t.clock.k = 0 ∧ t.clock.phase = 0 ∧ t.tables.scrubPos = 4 := by
  decide +kernel

/-- The state from which a run begins at the next boundary. -/
def starting : State :=
  { inState .starting with
    clock := { now := 1126000, phase := 1126000, k := 999 }
    tables := { walk := .ended } }

theorem test_runBegin :
    let t := after .runBegin starting
    t.mgmt.device = .running ∧ t.clock.pt = 0 ∧ t.tick = { countdown := 24, due := true } := by
  decide +kernel

/-- R18 and the labels: PT 101,000 at code 0 is frame 101, 00:00:04:05; FREE; code 0. -/
theorem test_tickDue :
    let t := after .tickDue { live with tick := { due := true } }
    t.portS.queue.map cellPayload = [beBytes 6 101000 ++ [0, 0, 4, 5, 0, 0]] ∧
      t.portP.queue.length = 1 ∧ t.tick = { countdown := 24, due := false } := by decide +kernel

/-- Started lines whose counters have reached 0. -/
def linesDue (mode : LineMode) : State :=
  { inState .configuring with lines := { a := ⟨true, 0, true⟩, b := ⟨true, 0, true⟩, mode := mode } }

theorem test_tickLineToggle :
    (after (.tickLineToggle .a) (linesDue .separate)).lines.a = ⟨false, 12, true⟩ := by decide +kernel

theorem test_tickbChainedToggle :
    (after .tickbChainedToggle (linesDue .chained)).lines.b = ⟨false, 12, true⟩ ∧
      (after .tickbChainedToggle (linesDue .separate)).lines.b = ⟨true, 0, true⟩ := by decide +kernel

/-! ### Power, RESETn, the boot record (09, section 9.2) -/

theorem test_powerUp : after .powerUp anchored = { State.reset with boot := { reading := true } } := by
  decide +kernel

theorem test_powerLost : (after .powerLost anchored).powered = false := by decide +kernel

theorem test_resetnAssert :
    let t := after .resetnAssert anchored
    t.mgmt.device = .boot ∧ t.resetLow = true ∧ t.log.entries = [] := by decide +kernel

theorem test_resetnRelease :
    (after .resetnRelease { State.reset with resetLow := true, boot := {} }).boot.reading = true := by
  decide +kernel

theorem test_bootRecordReadEnd :
    let t := after .bootRecordReadEnd { State.reset with boot := { address := 7 } }
    t.mgmt.device = .configuring ∧ t.mgmt.address = some 7 := by decide +kernel

theorem test_bootRecordReadEnd_bad :
    let t := after .bootRecordReadEnd { State.reset with boot := { address := 7, checkGood := false } }
    t.mgmt.device = .addressing ∧ (t.events[17]).flag = true ∧ t.faultn = true := by decide +kernel

/-- SAVE_ADDRESS, then the end of its write: the reply goes out and the record holds the address. -/
theorem test_saveAddress_and_bootRecordWriteEnd :
    let t := after .bootRecordWriteEnd (after .saveAddress (asked (ask 4 []) (inState .configuring)))
    t.boot.address = 5 ∧ t.boot.checkGood = true ∧
      t.portS.queue.map cellPayload = [[4, 9, 0, 5]] := by decide +kernel

/-! ### The tables: the worked Stream Map sequence of 03, section 3.2, and source write of section 3.4 -/

/-- The Stream Map after the first five requests of the worked sequence. -/
def mapped : State :=
  (((( inState .configuring).setMap 24 (fresh ⟨⟨1, 2⟩, 10⟩)).setMap 25 (fresh ⟨⟨17, 2⟩, 11⟩)).setMap 26
    (fresh ⟨⟨33, 2⟩, 12⟩)).setMap 27 (fresh ⟨⟨49, 2⟩, 13⟩)

theorem test_mapKey_ok :
    answer .mapKey (asked (ask 9 [1, 2, 10]) (inState .configuring)) = some [[9, 9, 0, 1, 2, 10, 24]] := by
  decide +kernel

theorem test_mapKey_refusals :
    answer .mapKey (asked (ask 9 [65, 2, 14]) mapped) = some [[9, 9, 6, 65, 2]] ∧
      answer .mapKey (asked (ask 9 [49, 2, 10]) (mapped.setMap 27 none)) = some [[9, 9, 7, 49, 2]] := by
  decide +kernel

theorem test_unmapKey :
    let s := asked (ask 10 [33, 2]) mapped
    answer .unmapKey s = some [[10, 9, 0, 33, 2, 12]] ∧ (after .unmapKey s).mapAt 26 = none := by
  decide +kernel

theorem test_readMap_absent :
    answer .readMap (asked (ask 11 [65, 2]) mapped) = some [[11, 9, 8]] := by decide +kernel

/-- The arguments of the worked source write. -/
def sourceArgs : List Byte :=
  [5] ++ [66, 79, 79, 77, 50, 32, 32, 32] ++ [1] ++ beBytes 4 48000000 ++ beBytes 2 1000 ++ beBytes 3 4800 ++
    beBytes 3 120000 ++ beBytes 2 30 ++ [4] ++ beBytes 2 1 ++ beBytes 2 50 ++ beBytes 2 8 ++ beBytes 3 5 ++
    beBytes 3 600000 ++ signedBytes 3 (-700000) ++ beBytes 2 2000 ++ [3, 1]

/-- CLAMPED: latency (5), window (8), slip tolerance (11), trim limit (12), initial trim (13): bits 3920. -/
theorem test_writeSource_clamped :
    let s := asked (ask 12 sourceArgs) (inState .running)
    answer .writeSource s = some [[12, 9, 1] ++ beBytes 3 (2 ^ 5 + 2 ^ 8 + 2 ^ 11 + 2 ^ 12 + 2 ^ 13)] ∧
      (validContent ((after .writeSource s).sourceAt 5)).map (fun e =>
        [e.latency, e.window, e.lockTol, e.slipTol, e.trimLimit]) = some [100000, 2, 8, 9, 500000] ∧
      (validContent ((after .writeSource s).sourceAt 5)).map SourceEntry.initialTrim = some (-500000) := by
  decide +kernel

theorem test_writeSource_range_and_live :
    answer .writeSource (asked (ask 12 (sourceArgs.set 15 0xEA)) (inState .running)) = some [[12, 9, 4]] ∧
      answer .writeSource (asked (ask 12 (sourceArgs.set 0 3)) anchored) = some [[12, 9, 5]] := by
  decide +kernel

/-- R54: the fields come back in the bytes of Table 2-7, with the part header before them. -/
theorem test_readSource :
    (answer .readSource (asked (ask 13 [3]) live)).map (fun c => c.map fun d => field d 3 15) =
      some [[0, 1, 65, 65, 65, 65, 65, 65, 65, 65, 0, 0, 0, 93, 192]] := by decide +kernel

theorem test_writeGroup_clamped :
    let s := asked (ask 14 ([2] ++ beBytes 3 0 ++ beBytes 2 10 ++ beBytes 2 2 ++ [0, 101]))
      (inState .configuring)
    answer .writeGroup s = some [[14, 9, 1, 17]] ∧
      (validContent (after .writeGroup s).tables.group[1]).map GroupEntry.labelTol = some 100 := by
  decide +kernel

theorem test_readGroup_empty :
    answer .readGroup (asked (ask 15 [16]) live) = some [[15, 9, 8]] ∧
      answer .readGroup (asked (ask 15 [17]) live) = some [[15, 9, 4]] := by decide +kernel

theorem test_inject :
    let s := asked (ask 16 [1, 3]) live
    answer .inject s = some [[16, 9, 0]] ∧ checkFails ((after .inject s).sourceAt 3) = true := by
  decide +kernel

/-- The walk finds a damaged entry at position 256 + 3. -/
theorem test_validationWalkCheck :
    let s : State := (inState .starting).setSource 3 (some { content := camera, checkGood := false, damaged := false })
    let t := after .validationWalkCheck { s with tables := { s.tables with walk := .checking 259 0 } }
    (t.events[12]).detail = some [1, 3] ∧ t.tables.walk = .checking 260 0 ∧
      validContent (t.sourceAt 3) = none := by decide +kernel

theorem test_validationWalkEnd :
    let s := inState .starting
    (after .validationWalkEnd { s with tables := { s.tables with walk := .checking 395 0 } }).tables.walk =
      .ended := by decide +kernel

/-! ### Requests (09) -/

theorem test_setAddress :
    let s := asked (ask 1 [254]) (inState .addressing)
    (after .setAddress s).mgmt.device = .configuring ∧ answer .setAddress s = some [[1, 9, 0, 254]] ∧
      answer .setAddress (asked (ask 1 [255]) (inState .addressing)) = some [[1, 9, 4]] := by decide +kernel

/-- IDENTIFY: the part number 540 in two bytes after the family. -/
theorem test_identify :
    (answer .identify (asked (ask 2 []) (inState .addressing))).map (fun c => c.map fun d => field d 4 2) =
      some [[2, 28]] := by decide +kernel

theorem test_forget :
    let t := after .forget (asked (ask 3 []) (inState .configuring))
    t.mgmt.device = .addressing ∧ t.mgmt.address = some 0 := by decide +kernel

/-- A record with fields written. -/
def written (s : State) (xs : List (Nat × Nat)) : State :=
  let put (v : Vector (BitVec 32) fieldCount) (x : Nat × Nat) : Vector (BitVec 32) fieldCount :=
    if h : x.1 < fieldCount then v.set x.1 (BitVec.ofNat 32 x.2) else v
  { s with paramRecord := xs.foldl put s.paramRecord }

/-- The worked capture of 09, section 9.7, at CLOCK_APPLY: fields 3 and 6 defaulted. -/
theorem test_clockApply_worked :
    let s := asked (ask 5 []) (written (inState .configuring) [(0, 3), (1, 1), (2, 1), (3, 3), (6, 20)])
    let t := after .clockApply s
    answer .clockApply s = some [[5, 9, 0, 2 ^ 3 + 2 ^ 6]] ∧ t.clock.state = .seeking ∧
      (t.events[15]).count = 2 ∧ (t.events[15]).detail = some [3] ∧
      t.clock.params.divisor = 1 ∧ t.clock.params.lockCount = 4 := by decide +kernel

/-- The same at RUN: the epoch label 00:07:00;00 is dropped at 29.97 DF; fields 6 and 8 defaulted. -/
theorem test_run_worked :
    let s := asked (ask 6 []) (written (inState .configuring)
      [(0, 3), (1, 1), (2, 1), (3, 2), (6, 20), (8, 7 * 65536)])
    let t := after .run s
    answer .run s = some [[6, 9, 0, 1, 2 ^ 6]] ∧ t.mgmt.device = .starting ∧
      t.settings.epochIndex = 0 ∧ t.tables.walk = .checking 0 0 := by decide +kernel

theorem test_halt :
    let t := after .halt (asked (ask 7 []) anchored)
    t.mgmt.device = .configuring ∧ (t.ctx 3).state = .closed ∧ t.clock.pt = 101003 ∧
      t.log.entries.map LogEntry.ending = [some ⟨1000, 100000⟩] := by decide +kernel

theorem test_clear :
    let t := after .clear (asked (ask 8 []) anchored)
    t.mgmt.address = some 5 ∧ t.sourceAt 3 = none ∧ t.clock.pt = 0 ∧ t.clock.phase = 4000 := by
  decide +kernel

theorem test_writeParams :
    let t := after .writeParams (asked (ask 17 [14, 0, 0, 0, 200, 16, 0, 0, 0, 9]) live)
    t.managerNode = 200 ∧ t.param 16 = 9 ∧ t.threshold = 0 ∧ (t.events[15]).detail = some [16] := by
  decide +kernel

/-- READ_PARAMS: 58 values of four bytes, twelve in the first cell and thirteen in the others. -/
theorem test_readParams :
    (answer .readParams (asked (ask 18 []) live)).map (fun c => c.map List.length) =
      some [53, 56, 56, 56, 32] := by decide +kernel

theorem test_openSource :
    let s := asked (ask 19 [3]) live
    answer .openSource s = some [[19, 9, 0, 0, 0, 0, 1]] ∧
      ((after .openSource s).ctx 3).state = .acquiring := by decide +kernel

theorem test_closeSource :
    let s := asked (ask 20 [3]) anchored
    answer .closeSource s = some [[20, 9, 0, 0, 0, 0, 1]] ∧
      answer .closeSource (asked (ask 20 [3]) live) = some [[20, 9, 3]] := by decide +kernel

theorem test_reopenSource :
    let t := after .reopenSource (asked (ask 21 [3]) anchored)
    (t.ctx 3).gen = 2 ∧ (t.ctx 3).anchor = none ∧
      t.log.entries.map LogEntry.ending = [some ⟨1000, 100000⟩] := by decide +kernel

theorem test_readContext_parts :
    (answer .readContext (asked (ask 22 [3]) anchored)).map (fun c => c.map fun d => field d 3 2) =
      some [[0, 3], [1, 1], [2, 0]] := by decide +kernel

theorem test_readStatus :
    (answer .readStatus (asked (ask 23 []) live)).map List.length = some 4 := by decide +kernel

/-- Event 3 of the worked sequence of 10, section 10.6, and the records of R192 with length and level nibbles. -/
theorem test_readEvents :
    let s := recordEvent .tableDamage [1, 12] live
    (answer .readEvents (asked (ask 24 (beBytes 3 (2 ^ 12))) s)).map (fun c => c.drop 1) =
      some [[24, 9, 0, 1] ++ [12, 128 + 64 + 16 + 2, 0, 1, 1, 12, 0, 0, 0, 0, 0, 0, 0]] ∧ s.faultn = true := by
  decide +kernel

theorem test_clearEvents :
    let s := asked (ask 25 (beBytes 3 (2 ^ 12))) (recordEvent .tableDamage [1, 12] live)
    (answer .clearEvents s).map (fun c => c.map fun d => field d 27 2) = some [[0, 1]] ∧
      (after .clearEvents s).faultn = false := by decide +kernel

theorem test_unknownRequest :
    answer .unknownRequest (asked (ask 31 []) live) = some [[31, 9, 4]] := by decide +kernel

theorem test_mgmtHandlingEnd :
    let s := asked (ask 20 [3]) live
    let t := after .mgmtHandlingEnd (after .closeSource s)
    t.portS.queue = [cell 200 5 6 0 [20, 9, 3]] ∧ t.mgmt.inbox = [] ∧ t.portS.sequence = 1 := by
  decide +kernel

/-! ### The Locate Unit: the worked locate of 07, section 7.7 -/

/-- The Log after the seven marks. -/
def jumpedLog : State :=
  { live.setCtx 3 { anchoredCtx with anchor := some ⟨1001, 106000, 2⟩, lastCount := 1002 } with
    clock := { live.clock with pt := 110000 }
    log := { entries := [
               { firstEntry with ending := some ⟨1002, 102000⟩ },
               { firstEntry with seq := 1, reason := .jump, c0 := 1200, pt0 := 104000, ending := some ⟨1201, 105000⟩ },
               { firstEntry with seq := 2, reason := .jump, c0 := 1001, pt0 := 106000 }]
             nextSeq := 3 } }

/-- The status and the first value of the answer to a locate request. -/
def located (c : Instr) (r : Request) (w : Nat) : Option (List (List Byte)) :=
  (after c (searched r jumpedLog)).locate.service.map fun x => x.map fun d => field d 2 (1 + w + 4)

theorem test_locateTime_worked :
    located .locateTime (ask 26 ([14, 0] ++ beBytes 6 101400)) 5 =
        some [[0] ++ beBytes 5 1001 ++ beBytes 4 0] ∧
      located .locateTime (ask 26 ([14, 0] ++ beBytes 6 103000)) 5 = some [[12]] ∧
      located .locateTime (ask 26 ([14, 0] ++ beBytes 6 109500)) 5 =
        some [[0] ++ beBytes 5 1005 ++ beBytes 4 2] ∧
      located .locateTime (ask 26 ([14, 0] ++ beBytes 6 112000)) 5 = some [[10]] := by decide +kernel

theorem test_locateCount_worked :
    located .locateCount (ask 27 ([14, 0] ++ beBytes 5 1001)) 6 = some [[0] ++ beBytes 6 106000 ++ [0, 0, 4, 10]] ∧
      located .locateCount (ask 27 ([14, 0] ++ beBytes 5 1100)) 6 = some [[12]] := by decide +kernel

theorem test_locateServiceEnd :
    let t := after .locateServiceEnd (after .locateTime (searched (ask 26 ([14, 0] ++ beBytes 6 112000)) live))
    t.portS.queue = [cell 200 5 6 0 [26, 9, 10]] ∧ t.locate.queue = [] := by decide +kernel

/-! ### Pairing: the worked take of 08, section 8.9 -/

def group2 : GroupEntry :=
  { pairingWindow := 2000, rollingLimit := 10, stepThreshold := 2, policy := .step, labelTol := 1 }

/-- The four contexts of the worked take, epoch 01:00:00:00, PT 85,390. -/
def stage : State :=
  let ctx (w : SourceEntry) (c0 pt0 arrival : Nat) : Context :=
    { anchoredCtx with
      state := .locked, work := some w, anchor := some ⟨c0, pt0, 0⟩, lastArrival := arrival }
  let s := (((((inState .running).setGroup 1 (fresh group2)).setCtx 8
    (ctx { camera with cls := .slate, rn := 30000, latency := 0 } 100 5012 85100)).setCtx 3
    (ctx camera 5000 80000 84500)).setCtx 20 (ctx recorder 1000000 80000 85205)).setCtx 21
    (ctx recorder 2000000 80000 84700)
  { s with clock := { s.clock with pt := 85390 }, settings := { s.settings with epochIndex := 86400 } }

/-- Events 1 to 3 of take 1. -/
def take1 : State :=
  handleTransient 20 1010000 85000
    (handleClap ⟨8, 85012, 85410, ⟨1, 0, 3, 14⟩, [83, 67, 48, 49, 50, 65], 3⟩
      (handleTransient 21 2009980 84990 stage))

theorem test_take1_worked :
    take1.pairing.takes.map (fun t => (t.number, t.labelDiff, t.isOpen, t.omitted)) =
        [(1, some 1, false, 0)] ∧
      take1.pairing.takes.map (fun t => t.rows.map fun r => ((r.slot : Nat), r.count, r.status, r.delta)) =
        [[(3, some 5005, .fixed, none), (20, some 1010000, .paired, some 12),
          (21, some 2009980, .paired, some 22)]] ∧
      take1.pairing.claps = [] ∧ take1.pairing.held = [] := by decide +kernel

theorem test_take1_anchors :
    (take1.ctx 20).anchor.map (fun a => (a.c0, a.pt0)) = some (1010000, 85012) ∧
      (take1.ctx 20).adjust = -12 ∧ (take1.ctx 21).adjust = -22 := by decide +kernel

/-- Take 2, its row 20 PENDING. -/
def secondTake : Take :=
  { number := 2, scene := [83, 67, 48, 49, 50, 66], codeNumber := 3, group := 2, slate := 8, clapPt := 240000
    labelDiff := some 4, isOpen := true, omitted := 0
    rows := [⟨3, .camera, 1, some 5160, .fixed, none⟩, ⟨20, .recorder, 1, some 1320000, .pending, none⟩,
      ⟨21, .recorder, 1, some 2316020, .disagree, some 1990⟩] }

/-- Take 2 stands at its deadline. -/
def take2 : State :=
  { stage with
    clock := { stage.clock with pt := 242000 }
    pairing := { stage.pairing with
      takes := [secondTake]
      claps := [⟨2, 2, 240000, 242000⟩] } }

theorem test_clapDeadline_worked :
    let t := after (.clapDeadline 2) take2
    t.pairing.claps = [] ∧ (t.events[7]).detail = some [0, 2, 1] ∧
      t.pairing.takes.map (fun t => t.rows.map TakeRow.status) = [[.fixed, .unpaired, .disagree]] := by
  decide +kernel

/-- Event 5: the re-anchor |-22 - 1,990| is refused, and the row becomes DISAGREE. -/
theorem test_take2_disagrees :
    let s : State := { take2 with pairing := { take2.pairing with
      takes := take2.pairing.takes.map fun t =>
        { t with rows := [⟨20, .recorder, 1, none, .pending, none⟩, ⟨21, .recorder, 1, none, .pending, none⟩] } } }
    let t := handleTransient 21 2316020 238010 (s.setCtx 21 { s.ctx 21 with adjust := -22 })
    (t.events[8]).detail = some ([0, 2, 21] ++ beBytes 4 1990) ∧ t.pairing.claps.length = 1 := by
  decide +kernel

theorem test_transientDeadline :
    let s : State := { take2 with pairing := { take2.pairing with held := [⟨20, 2, 7, 241000, 241999⟩] } }
    (after (.transientDeadline 0) s).pairing.held = [] ∧
      (after (.transientDeadline 0) s).events[9].detail = some ([20] ++ beBytes 6 241000 ++ [1]) := by
  decide +kernel

theorem test_takeQuery :
    ((after .takeQuery (searched (ask 28 [0, 2]) take2)).locate.service.map fun x => x.map List.length) =
      some [30, 46] := by decide +kernel

theorem test_takeFind_none :
    (after .takeFind (searched (ask 29 [0, 0, 0, 0, 0, 0, 0, 3]) take2)).locate.service =
      some [[29, 9, 8]] := by decide +kernel

theorem test_takeAt :
    let f (pt : Nat) : Option (List (List Byte)) :=
      (after .takeAt (searched (ask 30 (beBytes 6 pt)) take2)).locate.service.map fun x =>
        (x.take 1).map fun d => field d 2 5
    f 240000 = some [[0, 0, 2, 0, 2]] ∧ f 239999 = some [[8]] := by decide +kernel

/-! ### Witnesses: states that meet the hypotheses of each statement -/

/-- The commands of the witnesses for the statements about every step. -/
def stepping : State := { anchored with pending := [.cellHeaderComplete .stage] }

theorem witness_step_answers_next : ∃ t, step stepping = .next t := ⟨_, rfl⟩

theorem witness_EmptyQueuePassesOneCycle_held :
    let s : State := { State.reset with resetLow := true }
    s.pending = [] ∧ s.alive = false := by decide

theorem witness_EmptyQueuePassesOneCycle_alive :
    anchored.pending = [] ∧ anchored.alive = true ∧ Quiet anchored ∧ NothingEndsWithin 1 anchored ∧
      (∀ n t, anchored.tables.walk ≠ .checking n t) ∧ anchored.mgmt.inbox = [] ∧
      anchored.locate.queue = [] ∧ canSend anchored .stage = false ∧ canSend anchored .post = false ∧
      cyclesToBoundary anchored ≠ 0 := by
  refine ⟨by decide, by decide, ?_, ⟨by decide, by decide⟩, fun _ _ h => (by cases h), by decide,
    by decide, by decide, by decide, by decide⟩
  unfold Quiet
  decide +kernel

/-- With the power off: a REFIN pulse is no supply, RESETn, physical layer or reception command. -/
theorem witness_HeldPartIgnoresCommands :
    let s : State := { State.reset with powered := false }
    s.alive = false ∧ Instr.refinPulse ≠ .powerUp ∧ Instr.refinPulse ≠ .powerLost ∧
      Instr.refinPulse ≠ .resetnAssert ∧ Instr.refinPulse ≠ .resetnRelease ∧
      (∀ p, Instr.refinPulse ≠ .transmitterHoldOff p) ∧ (∀ p, Instr.refinPulse ≠ .transmitterHoldOffEnd p) ∧
      (∀ p, Instr.refinPulse ≠ .cellHeaderComplete p) ∧ ∀ p w, Instr.refinPulse ≠ .cellArrival p w := by
  refine ⟨by decide, by decide, by decide, by decide, by decide, ?_, ?_, ?_, ?_⟩ <;> intros <;> nofun

theorem witness_StepKeepsCapacitiesAndRanges : WithinCapacity stepping ∧ WithinRanges stepping := by
  unfold WithinCapacity WithinRanges Counters.InRange Context.CountersInRange
  decide +kernel

theorem witness_StepKeepsEventsAndAlarm :
    let s : State := { recordEvent .refLost [0] anchored with pending := [.cellHeaderComplete .stage] }
    EventsSound s ∧ AlarmFollowsFlags s ∧ s.faultn = true := by
  refine ⟨?_, by unfold AlarmFollowsFlags; decide +kernel, by decide +kernel⟩
  unfold EventsSound EventState.Sound
  decide +kernel

theorem witness_StepKeepsPictureTimeInStep :
    PictureTimeInStep stepping ∧ stepping.mgmt.device = .running := by
  unfold PictureTimeInStep
  decide +kernel

theorem witness_StepKeepsModesLegal :
    FreeExactlyInternal stepping ∧ AddressFitsState stepping ∧ StillWhileReset stepping := by
  refine ⟨by unfold FreeExactlyInternal; decide, ⟨5, rfl, by decide, by decide⟩, fun h => ?_⟩
  exact absurd h (by decide)

/-- The same with the power off. -/
theorem witness_StepKeepsModesLegal_held :
    let s := { powerUpValues { anchored with powered := false } with pending := [.refinPulse] }
    s.alive = false ∧ StillWhileReset s := ⟨by decide +kernel, fun _ => by decide +kernel⟩

theorem witness_StepKeepsMapUnique : MapUnique { mapped with pending := [.refinPulse] } := by
  have key (P : Fin 256 → MapEntry → Prop) (h24 : P 24 ⟨⟨1, 2⟩, 10⟩) (h25 : P 25 ⟨⟨17, 2⟩, 11⟩)
      (h26 : P 26 ⟨⟨33, 2⟩, 12⟩) (h27 : P 27 ⟨⟨49, 2⟩, 13⟩) (i : Fin 256) (e : Stored MapEntry)
      (h : State.mapAt { mapped with pending := [.refinPulse] } i = some e) : P i e.content := by
    have hm : mapped.mapAt i = some e := h
    unfold mapped at hm
    by_cases a : (27 : Fin 256) = i
    · subst a; simp [fresh] at hm; subst hm; exact h27
    rw [Laws.setMap_mapAt_ne _ _ _ _ a] at hm
    by_cases a : (26 : Fin 256) = i
    · subst a; simp [fresh] at hm; subst hm; exact h26
    rw [Laws.setMap_mapAt_ne _ _ _ _ a] at hm
    by_cases a : (25 : Fin 256) = i
    · subst a; simp [fresh] at hm; subst hm; exact h25
    rw [Laws.setMap_mapAt_ne _ _ _ _ a] at hm
    by_cases a : (24 : Fin 256) = i
    · subst a; simp [fresh] at hm; subst hm; exact h24
    rw [Laws.setMap_mapAt_ne _ _ _ _ a] at hm
    have : (inState .configuring).mapAt i = none := by
      simp [State.mapAt, inState, State.reset]
    rw [this] at hm
    cases hm
  refine ⟨fun i e h => ?_, fun i j e f h g hij => ?_⟩
  · exact key (fun i m => (i : Nat) / 4 = mapSet m.key) (by decide) (by decide) (by decide) (by decide) i e h
  · refine key (fun i m => i ≠ j → m.key ≠ f.content.key ∧ m.slot ≠ f.content.slot) ?_ ?_ ?_ ?_ i e h hij
    all_goals
      refine key (fun j n => _ ≠ j → _ ≠ n.key ∧ _ ≠ n.slot) ?_ ?_ ?_ ?_ j f g <;> decide

theorem camera_InRange : camera.InRange := by
  unfold SourceEntry.InRange
  decide

theorem witness_StepKeepsEntriesInRange : EntriesInRange stepping := by
  have hctx (i : Fin 128) : stepping.ctx i = if i = 3 then anchoredCtx else {} := by
    by_cases h : i = 3
    · subst h; rfl
    · rw [if_neg h]
      have : stepping.ctx i = anchored.ctx i := rfl
      rw [this]
      have : anchored.ctx i = (live.setCtx 3 anchoredCtx).ctx i := rfl
      rw [this, Laws.setCtx_ctx_ne _ _ _ _ (Ne.symm h)]
      simp [State.ctx, live, inState, State.reset, State.setMap, State.setSource]
  refine ⟨fun i e h => ?_, fun i e h => ?_, fun i h => ?_, fun i w h => ?_⟩
  · have hs : ((inState .running).setSource 3 (fresh camera)).sourceAt i = some e := h
    by_cases a : (3 : Fin 128) = i
    · subst a
      simp [fresh] at hs
      subst hs
      exact camera_InRange
    · rw [Laws.setSource_sourceAt_ne _ _ _ _ a] at hs
      have : (inState .running).sourceAt i = none := by simp [State.sourceAt, inState, State.reset]
      rw [this] at hs
      cases hs
  · have : stepping.tables.group[i] = none := by
      have : stepping.tables.group = Vector.replicate 16 none := rfl
      simp [this]
    rw [this] at h
    cases h
  · rw [hctx] at h ⊢
    by_cases a : i = 3
    · simp [a, anchoredCtx]
    · simp [a, Context.isOpen] at h
  · rw [hctx] at h ⊢
    by_cases a : i = 3
    · simp only [a, if_true, anchoredCtx, Option.some.injEq] at h ⊢
      subst h
      exact ⟨camera_InRange, by decide, by decide⟩
    · simp [a] at h

theorem witness_StepKeepsRestOutsideRun :
    RestsOutsideRun { inState .configuring with pending := [.refinPulse] } ∧
      (inState .configuring).mgmt.device ≠ .running := by
  refine ⟨fun _ => ⟨?_, rfl, rfl⟩, by decide⟩
  decide +kernel

theorem witness_StepKeepsLogNumbered :
    LogNumbered { jumpedLog with pending := [.refinPulse] } := by
  unfold LogNumbered
  decide +kernel

theorem witness_StepKeepsCellsConserved :
    let s : State := { stepping with
      portS := { counters := { arrived := 3, shortMarks := 1 } }
      portP := { counters := { arrived := 1, consumed := 1, forwardedOut := 2, overrun := 1 } } }
    CellsConserved s := by
  unfold CellsConserved ConservedAt
  decide +kernel

/-- A difference of exactly 2^39 is the first that reads as negative. -/
theorem witness_CountDifferenceIsSmallestSigned :
    549755813888 < Config.countModulus ∧ 0 < Config.countModulus ∧
      countDiff 549755813888 0 = -549755813888 ∧ countDiff 549755813887 0 = 549755813887 := by decide

theorem recorder48k_InRange : recorder48k.InRange := by
  unfold Conversion.InRange
  decide

theorem camera24_InRange : camera24.InRange := by
  unfold Conversion.InRange
  decide

theorem fastSource_InRange : fastSource.InRange := by
  unfold Conversion.InRange
  decide

theorem witness_ConversionsRoundHalfUp : recorder48k.InRange := recorder48k_InRange

theorem witness_ConversionResultsAndClamps :
    camera24.InRange ∧ rawPt camera24 1099511627700 < 0 ∧
      (Config.maxPt : Int) < rawPt camera24 549755813877 ∧
      0 ≤ rawPt camera24 1099511627726 ∧ rawPt camera24 1099511627726 = 0 ∧
      2 ^ 39 - 1 < countDelta fastSource 164926744167 ∧
      countDelta fastSource 164926744166 = 2 ^ 39 - 1 := by
  refine ⟨camera24_InRange, ?_⟩
  decide

theorem witness_RoundTripsWithinHalfUnits_count :
    camera24.InRange ∧ 1099511627726 < Config.countModulus ∧ 0 ≤ rawPt camera24 1099511627726 ∧
      rawPt camera24 1099511627726 ≤ Config.maxPt ∧
      reverse camera24 false (forward camera24 false 1099511627726).value =
        some ⟨1099511627726, false⟩ ∧ ratioDen camera24 < ratioNum camera24 := by
  refine ⟨camera24_InRange, ?_⟩
  decide

theorem witness_RoundTripsWithinHalfUnits_time :
    recorder48k.InRange ∧ 5719283 ≤ Config.maxPt ∧
      reverse recorder48k false 5719283 = some ⟨11440001, false⟩ ∧ 0 ≤ rawPt recorder48k 11440001 ∧
      rawPt recorder48k 11440001 ≤ Config.maxPt ∧ ratioNum recorder48k < ratioDen recorder48k := by
  refine ⟨recorder48k_InRange, ?_⟩
  decide

theorem witness_ConversionsPreserveOrder :
    camera24.InRange ∧ countDiff 549755813878 camera24.c0 ≤ countDiff 549755813877 camera24.c0 ∧
      (39500 : Int) ≤ 40500 := by
  refine ⟨camera24_InRange, ?_⟩
  decide

/-- The last index and a label of the greatest rate code. -/
theorem witness_LabelsAndIndicesRoundTrip :
    code7drop.rate ≤ 8 ∧ (code7drop.dropFrame = true → code7drop.rate = 3 ∨ code7drop.rate = 7) ∧
      5178815 < labelDay code7drop ∧ labelValid code7drop ⟨23, 59, 59, 59⟩ = true := by decide

/-! ### Witnesses: cells -/

/-- The greatest kind, sequence number and payload; a PACE mark, and a CLAP mark of 17 bytes. -/
theorem witness_MadeAndStampedCellsAreGood :
    let clap := cell 0 14 2 3 (beBytes 5 7 ++ List.replicate 12 65)
    15 < 16 ∧ 255 < 256 ∧ (List.replicate 56 (0 : Byte)).length ≤ 56 ∧ cellGood (paceCell 1000) = true ∧
      cellStamped (paceCell 1000) = false ∧ cellGood clap = true ∧ cellStamped clap = false := by
  decide +kernel

theorem witness_DamagedCellRaisesLinkDamage :
    live.alive = true ∧ live.discards .stage = false ∧ cellGood [1, 2, 3] = false := by
  decide +kernel

/-- A PASS cell in BOOT, an already stamped mark, a short mark, and a mark outside RUNNING; a full queue. -/
theorem witness_PassingCellIsForwardedUnchanged :
    let stamped := stampedCell (paceCell 7) (List.replicate 12 0)
    let short := cell 0 14 2 0 (beBytes 5 7)
    State.reset.alive = true ∧ State.reset.discards .stage = false ∧ live.discards .stage = false ∧
      State.reset.hasRoom .post = true ∧
      ({ live with portP := { queue := fullQueue } } : State).hasRoom (otherPort .stage) = false ∧
      cellGood (cell 0 14 8 0 []) = true ∧ markNeed (cellKind (cell 0 14 8 0 [])) = none ∧
      cellKind (cell 0 14 8 0 []) ≠ 5 ∧
      cellGood stamped = true ∧ markNeed (cellKind stamped) = some 5 ∧ cellStamped stamped = true ∧
      cellGood short = true ∧ markNeed (cellKind short) = some 17 ∧ cellStamped short = false ∧
      cellLength short < 17 ∧
      cellGood (paceCell 7) = true ∧ markNeed (cellKind (paceCell 7)) = some 5 ∧
      cellStamped (paceCell 7) = false ∧ cellLength (paceCell 7) = 5 ∧
      State.reset.mgmt.device ≠ .running := by decide +kernel

/-- Requests that pass: any in BOOT, one to node 0 and one to another node in RUNNING, a broadcast IDENTIFY, a
broadcast HALT of one payload byte, and a broadcast HALT in ADDRESSING. -/
theorem witness_PassingCellIsForwardedUnchanged_requests :
    let sent (n kind : Byte) : Cell := cell n 200 5 0 [kind, 9]
    let short := cell 255 200 5 0 [7]
    (∀ w ∈ [sent 5 2, sent 0 2, sent 6 2, sent 255 2, sent 255 7, short],
      cellGood w = true ∧ cellKind w = 5 ∧ markNeed (cellKind w) = none) ∧
      State.reset.discards .stage = false ∧ (inState .addressing).discards .stage = false ∧
      State.reset.mgmt.device = .boot ∧ live.mgmt.device = .running ∧
      (∀ w ∈ [sent 0 2, sent 6 2, sent 255 2, short], live.mgmt.address ≠ some (cellDest w)) ∧
      cellDest (sent 0 2) ≠ 255 ∧ cellDest (sent 6 2) ≠ 255 ∧
      (∀ k ∈ [5, 6, 7], (byteAt (cellPayload (sent 255 2)) 0).toNat ≠ k) ∧
      (cellPayload short).length < 2 ∧
      (inState .addressing).mgmt.address ≠ some (cellDest (sent 255 7)) := by decide +kernel

/-- A request of two payload bytes and of one for the Management Unit, one for the Locate Unit, and a broadcast, the
other port's queue with room and full. -/
theorem witness_RequestJoinsItsQueue :
    let m := cell 5 200 5 0 [2, 9]
    let n := cell 5 200 5 0 [2]
    let l := cell 5 200 5 0 [28, 9]
    let b := cell 255 200 5 0 [7, 9]
    let full := { live with mgmt := { live.mgmt with inbox := List.replicate 4 (ask 2 []) } }
    let choked : State := { full with portP := { queue := fullQueue } }
    live.alive = true ∧ live.discards .stage = false ∧ choked.discards .stage = false ∧
      choked.hasRoom (otherPort .stage) = false ∧ cellGood m = true ∧ cellKind m = 5 ∧ 2 ≤ (cellPayload m).length ∧
      live.mgmt.device ≠ .boot ∧ live.mgmt.address = some (cellDest m) ∧
      isLocateKind (requestOf .stage false m).kind = false ∧ live.mgmt.inbox.length < 4 ∧
      ¬ full.mgmt.inbox.length < 4 ∧
      cellGood n = true ∧ cellKind n = 5 ∧ cellDest n = 5 ∧ (cellPayload n).length < 2 ∧
      cellGood l = true ∧ live.mgmt.device = .running ∧
      isLocateKind (requestOf .stage false l).kind = true ∧
      cellGood b = true ∧ cellDest b = 255 ∧ live.mgmt.address ≠ some 255 ∧
      2 ≤ (cellPayload b).length ∧ (requestOf .stage false b).kind = 7 ∧
      live.hasRoom (otherPort .stage) = true ∧ full.mgmt.address ≠ some 255 ∧
      full.hasRoom (otherPort .stage) = true := by decide +kernel

/-- A locate request at a full queue, in STARTING and in ADDRESSING; a MAP at a full inbox. -/
theorem witness_RequestJoinsItsQueue_refused :
    let l := cell 5 200 5 0 [28, 9]
    let l0 := cell 0 200 5 0 [28, 9]
    let full : State := { live with locate := { queue := List.replicate 8 (ask 28 [0, 1]) } }
    full.discards .stage = false ∧ isLocateKind (requestOf .stage false l).kind = true ∧
      full.mgmt.address = some (cellDest l) ∧
      ¬ full.locate.queue.length < 8 ∧
      (inState .starting).mgmt.device = .starting ∧ (inState .starting).mgmt.address = some (cellDest l) ∧
      cellGood l0 = true ∧ 2 ≤ (cellPayload l0).length ∧ (inState .addressing).mgmt.device = .addressing ∧
      (inState .addressing).mgmt.address = some (cellDest l0) ∧
      refusalData (requestOf .stage false (cell 5 200 5 0 [9, 9, 14, 1, 3])) = [14, 1] := by decide +kernel

/-- R33, R40: a broadcast HALT that meets the other port's full queue is taken, its forwarding dropped as overrun. -/
theorem test_broadcast_at_full_queue :
    let t := after (.cellArrival .stage (cell 255 200 5 0 [7, 9])) { live with portP := { queue := fullQueue } }
    t.mgmt.inbox.map (fun r => (r.kind, r.broadcast)) = [(7, true)] ∧ t.portP.queue.length = 32 ∧
      t.portS.counters.broadcastTaken = 1 ∧ t.portP.counters.overrun = 1 ∧
      (t.events[14]).detail = some [1, 0] := by decide +kernel

/-- R29: RESETn ends the reception of a cell whose header had come; its rest, and the rest of one begun while RESETn is
low, is neither counted nor handled, and the next cell is received as usual. -/
theorem test_cell_received_over_reset :
    let low := after .resetnAssert (headed 101500 live)
    let s := after .resetnRelease low
    let t := after (.cellArrival .stage (paceCell 1000)) s
    let u := after (.cellArrival .stage (paceCell 1000))
      (after .resetnRelease (after (.cellHeaderComplete .stage) (after .resetnAssert live)))
    t.portS.counters = {} ∧ t.portP.queue = [] ∧ t.portS.header = none ∧
      (after (.cellArrival .stage (paceCell 1000)) t).portS.counters.arrived = 1 ∧
      u.portS.counters = {} ∧ u.portP.queue = [] := by decide +kernel

theorem pace_reaches_stamping (n : Nat) (h : cellGood (paceCell n) = true) (s : State)
    (ha : s.alive = true) (hx : s.discards .stage = false) (hd : s.mgmt.device = .running)
    (hs : cellStamped (paceCell n) = false) (hk : markNeed (cellKind (paceCell n)) = some 5)
    (hl : cellLength (paceCell n) = 5) :
    ReachesStamping s .stage (paceCell n) := ⟨ha, hx, hd, h, hs, 5, hk, by rw [hl]⟩

theorem witness_ArrivingMarkIsStamped :
    let closed := live.setSource 3 (fresh { camera with autoOpen := false })
    let gone := live.setMap 224 none
    let early : State := { anchored with portS := { anchored.portS with header := some ⟨77, true, false⟩ } }
    ReachesStamping gone .stage (paceCell 1000) ∧ gone.lookup (cellKey (paceCell 1000)) = none ∧
      ReachesStamping closed .stage (paceCell 1000) ∧
      closed.lookup (cellKey (paceCell 1000)) = some 3 ∧ (closed.ctx 3).state = .closed ∧
      (∀ e, closed.sourceAt 3 = some e → e.damaged = true ∨ e.content.autoOpen = false) ∧
      ReachesStamping live .stage (paceCell 1000) ∧ live.lookup (cellKey (paceCell 1000)) = some 3 ∧
      (live.ctx 3).state = .closed ∧ live.sourceAt 3 = some ⟨camera, true, false⟩ ∧ camera.autoOpen = true ∧
      ReachesStamping early .stage (paceCell 1000) ∧ early.lookup (cellKey (paceCell 1000)) = some 3 ∧
      (early.ctx 3).state ≠ .closed := by
  have h (s : State) (ha : s.alive = true) (hx : s.discards .stage = false) (hd : s.mgmt.device = .running) :
      ReachesStamping s .stage (paceCell 1000) :=
    pace_reaches_stamping _ (by decide +kernel) _ ha hx hd (by decide +kernel) (by decide +kernel)
      (by decide +kernel)
  refine ⟨h _ (by decide +kernel) (by decide +kernel) (by decide +kernel), by decide +kernel,
    h _ (by decide +kernel) (by decide +kernel) (by decide +kernel), by decide +kernel, by decide +kernel, ?_,
    h _ (by decide +kernel) (by decide +kernel) (by decide +kernel), by decide +kernel, by decide +kernel,
    by decide +kernel, rfl, h _ (by decide +kernel) (by decide +kernel) (by decide +kernel), by decide +kernel, by decide +kernel⟩
  intro e h
  simp [fresh] at h
  subst h
  exact .inr rfl

/-- A CLAP mark of 17 bytes and a TRANSIENT mark of 5 reach the Stamping Unit, with and without an anchor. -/
theorem witness_ArrivingMarkIsStamped_events :
    let clap := cell 0 14 2 0 (beBytes 5 1003 ++ List.replicate 12 65)
    let transient := cell 0 14 3 0 (beBytes 5 1003)
    let opened := anchoredWith fun c => { c with anchor := none }
    ReachesStamping anchored .stage clap ∧ cellKind clap = 2 ∧ ReachesStamping opened .stage transient ∧
      cellKind transient = 3 ∧ opened.lookup (cellKey transient) = some 3 ∧
      (opened.ctx 3).state ≠ .closed ∧ (opened.ctx 3).anchor = none := by
  refine ⟨⟨by decide +kernel, by decide +kernel, by decide +kernel, by decide +kernel, by decide +kernel, 17,
    by decide +kernel, by decide +kernel⟩, by decide +kernel, ⟨by decide +kernel, by decide +kernel,
    by decide +kernel, by decide +kernel, by decide +kernel, 5, by decide +kernel, by decide +kernel⟩, ?_⟩
  decide +kernel

theorem witness_DuplicatePaceIsOnlyCounted :
    ReachesStamping anchored .stage (paceCell 1000) ∧ cellKind (paceCell 1000) = 1 ∧
      anchored.lookup (cellKey (paceCell 1000)) = some 3 ∧ (anchored.ctx 3).state ≠ .closed ∧
      (anchored.ctx 3).state ≠ .lost ∧ (anchored.ctx 3).anchor = some ⟨1000, 100000, 0⟩ ∧
      countDiff (markCount (paceCell 1000)) (anchored.ctx 3).lastCount = 0 := by
  refine ⟨pace_reaches_stamping _ (by decide +kernel) _ (by decide +kernel) (by decide +kernel)
    (by decide +kernel) (by decide +kernel) (by decide +kernel) (by decide +kernel), ?_⟩
  decide +kernel

theorem witness_PaceMarkAnchorsAtArrival :
    let opened := live.setCtx 3 { anchoredCtx with anchor := none }
    let lost := anchoredWith fun c => { c with state := .lost }
    (opened.ctx 3).work = some camera ∧ (opened.ctx 3).state = .acquiring ∧ (opened.ctx 3).anchor = none ∧
      (lost.ctx 3).work = some camera ∧ (lost.ctx 3).state = .lost ∧
      (lost.ctx 3).anchor = some ⟨1000, 100000, 0⟩ := by decide +kernel

/-- A full Log, whose oldest entry leaves for each new anchor: of an opening, of a LOST context, of a window close and
of a clap. -/
def crowded (s : State) : State :=
  { s with log := { entries := List.replicate 512 firstEntry, nextSeq := 512 } }

theorem witness_anchors_at_a_full_Log :
    let lost := crowded (anchoredWith fun c => { c with state := .lost })
    let closing := crowded (anchored.setCtx 3 windowCtx)
    let clapped := crowded stage
    lost.log.entries.length = 512 ∧ (lost.ctx 3).work = some camera ∧ (lost.ctx 3).state = .lost ∧
      (lost.ctx 3).anchor ≠ none ∧
      closing.log.entries.length = 512 ∧ (closing.ctx 3).work = some camera ∧
      (closing.ctx 3).anchor = some ⟨5000, 300000, 0⟩ ∧ (closing.ctx 3).state = .locked ∧
      clapped.log.entries.length = 512 ∧ (clapped.ctx 20).work = some recorder ∧
      (clapped.ctx 20).anchor = some ⟨1000000, 80000, 0⟩ := by decide +kernel

/-- R127: the oldest entry leaves and its slot's context is marked history-trimmed. -/
theorem test_full_Log_evicts :
    let t := windowClose 3 5004 304000 (crowded (anchored.setCtx 3 windowCtx))
    t.log.entries.length = 512 ∧ t.log.nextSeq = 513 ∧ (t.ctx 3).trimmed = true := by decide +kernel

/-- The greatest gap, 4 strides, with the greatest error, 40; the mark that fills the window of 4. -/
theorem witness_NormalPaceIsAbsorbed :
    let v := forward (contextConversion anchored (anchored.ctx 3) ⟨1000, 100000, 0⟩) (ptHeld anchored) 1004
    let filling := anchoredWith fun c => { c with windowCount := 3 }
    (anchored.ctx 3).work = some camera ∧ (anchored.ctx 3).anchor = some ⟨1000, 100000, 0⟩ ∧
      (anchored.ctx 3).state = .acquiring ∧ 1 ≤ 4 ∧ 4 ≤ camera.gapLimit ∧ 1 ≤ camera.stride ∧
      countDiff 1004 (anchored.ctx 3).lastCount = ((4 : Nat) : Int) * camera.stride ∧
      |(v.value : Int) - ((105460 : Nat) - (camera.latency + (anchored.ctx 3).adjust))| ≤ camera.slipTol ∧
      (v.value : Int) - ((105460 : Nat) - (camera.latency + (anchored.ctx 3).adjust)) = 40 ∧
      ¬ camera.window ≤ (anchored.ctx 3).windowCount + 1 ∧
      forward (contextConversion filling (filling.ctx 3) ⟨1000, 100000, 0⟩) (ptHeld filling) 1004 = v ∧
      (filling.ctx 3).work = some camera ∧ (filling.ctx 3).state = .acquiring ∧
      (filling.ctx 3).anchor = some ⟨1000, 100000, 0⟩ ∧
      camera.window = (filling.ctx 3).windowCount + 1 := by decide +kernel

/-- A difference of 5 strides is a jump; an error of 41 is a slip. -/
theorem witness_JumpAndSlipReanchorAndRaise :
    let v := forward (contextConversion anchored (anchored.ctx 3) ⟨1000, 100000, 0⟩) (ptHeld anchored) 1004
    (anchored.ctx 3).work = some camera ∧ (anchored.ctx 3).anchor = some ⟨1000, 100000, 0⟩ ∧
      (anchored.ctx 3).state = .acquiring ∧ 1 ≤ camera.stride ∧
      countDiff 1005 (anchored.ctx 3).lastCount = 5 ∧
      (¬ ∃ j : Nat, 1 ≤ j ∧ j ≤ camera.gapLimit ∧ (5 : Int) = (j : Int) * camera.stride) ∧
      countDiff 1004 (anchored.ctx 3).lastCount = ((4 : Nat) : Int) * camera.stride ∧
      4 ≤ camera.gapLimit ∧
      (camera.slipTol : Int) <
        |(v.value : Int) - ((105459 : Nat) - (camera.latency + (anchored.ctx 3).adjust))| := by
  refine ⟨by decide +kernel, by decide +kernel, by decide +kernel, by decide, by decide +kernel, ?_,
    by decide +kernel, by decide, by decide +kernel⟩
  rintro ⟨j, _, h2, h3⟩
  have h4 : j ≤ 4 := h2
  have h5 : (5 : Int) = (j : Int) * 1 := h3
  omega

theorem witness_WindowCloseCorrectsTrimAndAnchor :
    let s := anchored.setCtx 3 windowCtx
    (s.ctx 3).work = some camera ∧ (s.ctx 3).anchor = some ⟨5000, 300000, 0⟩ ∧
      (s.ctx 3).state = .locked := by decide +kernel

/-! ### Witnesses: pairing, expiries, events, ports -/

theorem take2_group : take2.groupAt 2 = fresh group2 := by decide +kernel

/-- A camera's CLAP mark, a slate of a full KEEP_FIRST table, a camera's transient, a recorder of a damaged group,
and a recorder's transient with 15 and with 16 held, at the last PT at which it leaves at once and one later. -/
theorem witness_PairingAdmitsAndHolds :
    let t : Take := { number := 1, scene := [], codeNumber := 0, group := 2, slate := 8, clapPt := 0
                      labelDiff := none, isOpen := false, omitted := 0, rows := [] }
    let full : State := { stage with pairing := { stage.pairing with
      takes := List.replicate 64 t, policy := .keepFirst } }
    let holding (n : Nat) : State := { stage with pairing := { stage.pairing with
      held := List.replicate n ⟨21, 2, 0, 0, 90000⟩ } }
    (stage.ctx 3).entry.cls = .camera ∧
      (full.ctx 8).entry.cls = .slate ∧ full.groupAt (full.ctx 8).entry.group = fresh group2 ∧
      full.pairing.takes.length = 64 ∧ full.pairing.policy = .keepFirst ∧
      ((stage.setGroup 1 (some ⟨group2, true, true⟩)).groupAt 2).map Stored.damaged = some true ∧
      ((holding 15).ctx 20).entry.cls = .recorder ∧
      (holding 15).groupAt ((holding 15).ctx 20).entry.group = fresh group2 ∧
      (holding 15).pairing.claps = [] ∧ (holding 15).pairing.held.length < 16 ∧
      (holding 16).pairing.claps = [] ∧
      (holding 16).pairing.held = ⟨21, 2, 0, 0, 90000⟩ :: List.replicate 15 ⟨21, 2, 0, 0, 90000⟩ ∧
      ((holding 16).ctx 20).entry.cls = .recorder ∧
      (holding 16).groupAt ((holding 16).ctx 20).entry.group = fresh group2 ∧
      min (83390 + group2.pairingWindow) Config.maxPt ≤ stage.clock.pt ∧
      stage.clock.pt < min (83391 + group2.pairingWindow) Config.maxPt := by decide +kernel

/-- Two pending claps, both a pairing window from a transient at PT 238,000. -/
def twoClaps : State :=
  { take2 with pairing := { take2.pairing with
    takes := take2.pairing.takes.map (fun t => { t with number := 1, clapPt := 236000 }) ++ take2.pairing.takes
    claps := [⟨1, 2, 236000, 238000⟩, ⟨2, 2, 240000, 242000⟩] } }

/-- The oldest of two claps as near as the pairing window; a transient one picture time farther from the one clap. -/
theorem witness_PairingAdmitsAndHolds_nearest :
    (∃ t, twoClaps.takeNumbered 1 = some t) ∧
    twoClaps.pairing.claps = [] ++ ⟨1, 2, 236000, 238000⟩ :: [⟨2, 2, 240000, 242000⟩] ∧
    ClapFits twoClaps 2 2000 20 238000 ⟨1, 2, 236000, 238000⟩ ∧
    (∀ d ∈ [(⟨2, 2, 240000, 242000⟩ : PendingClap)], ClapFits twoClaps 2 2000 20 238000 d →
      ptGap 236000 238000 ≤ ptGap d.clapPt 238000) ∧
    (twoClaps.ctx 20).entry.cls = .recorder ∧
    twoClaps.groupAt (twoClaps.ctx 20).entry.group = fresh group2 ∧
    ∀ c ∈ take2.pairing.claps, ¬ ClapFits take2 2 2000 20 237999 c := by
  refine ⟨⟨_, rfl⟩, by decide +kernel, ⟨rfl, ⟨_, rfl, ⟨20, .recorder, 1, some 1320000, .pending, none⟩,
    by decide +kernel, rfl, rfl⟩, by decide⟩, fun d hd _ => ?_, by decide +kernel, by decide +kernel,
    fun c hc h => ?_⟩
  · rw [List.mem_singleton] at hd
    subst hd
    decide
  · have hm : c ∈ [(⟨2, 2, 240000, 242000⟩ : PendingClap)] := hc
    rw [List.mem_singleton] at hm
    subst hm
    exact absurd h.2.2 (by decide)

/-- The rolling members of group 2 at a clap, in the words of the statement. -/
def members (s : State) (m : ClapMark) : List (Fin 128) :=
  (List.finRange 128).filter fun i => decide (s.Rolling 2 group2.rollingLimit m i)

/-- R150: a last arrival exactly the rolling limit, 10,000, before the clap's still rolls, one picture time more does
not; a LOST context and the slate do not. -/
theorem test_rolling_limit :
    let m : ClapMark := ⟨8, 85012, 94500, ⟨1, 0, 3, 14⟩, [83, 67, 48, 49, 50, 65], 3⟩
    members stage m = [3, 20, 21] ∧ members stage { m with arrival := 94501 } = [20, 21] ∧
      members (stage.setCtx 20 { stage.ctx 20 with state := .lost }) m = [3, 21] := by decide +kernel

/-- R150: the rows of the worked take's members: the counts of 85,012 under their anchors. -/
theorem test_rows_of_members :
    [3, 20, 21].map (fun i => ((stage.rowOf 85012 i).count, (stage.rowOf 85012 i).status)) =
      [(some 5005, .fixed), (some 1010024, .pending), (some 2010024, .pending)] := by decide +kernel

/-- R151: differences of half the label day and of one frame more, at code 0 from frame 0. -/
theorem test_label_half_day :
    let s := inState .running
    s.labelOff ⟨12, 0, 0, 0⟩ 0 = some 1036800 ∧ s.labelOff ⟨12, 0, 0, 1⟩ 0 = some (-1036799) ∧
      s.labelOff ⟨24, 0, 0, 0⟩ 0 = none := by decide +kernel

/-- The worked clap with both recorders CLOSED and with both open, at an empty and at a full clap list; the row of a
held transient, and a clap at its deadline and one before it. -/
theorem witness_ClapMakesTake :
    let s := (stage.setCtx 20 {}).setCtx 21 {}
    let m : ClapMark := ⟨8, 85012, 85410, ⟨1, 0, 3, 14⟩, [83, 67, 48, 49, 50, 65], 3⟩
    let full : State := { stage with pairing := { stage.pairing with
      claps := List.replicate 8 ⟨1, 2, 85000, 87000⟩ } }
    let early : State := { take2 with clock := { take2.clock with pt := 241999 } }
    (s.ctx 8).entry.cls = .slate ∧ s.groupAt (s.ctx 8).entry.group = fresh group2 ∧
      s.pairing.takes.length < 64 ∧ (members s m).take 8 = [3] ∧
      (∀ i ∈ [(3 : Fin 128)], (s.ctx i).entry.cls ≠ .recorder) ∧
      (members stage m).take 8 = [3, 20, 21] ∧
      (stage.ctx 20).entry.cls = .recorder ∧ stage.pairing.claps = [] ∧
      (members full m).take 8 = [3, 20, 21] ∧
      full.pairing.takes.length < 64 ∧ ¬ full.pairing.claps.length < 8 ∧
      (take2.takeNumbered 2).isSome = true ∧ take2.groupAt 2 = fresh group2 ∧ take2.pairing.held = [] ∧
      (∃ c ∈ take2.pairing.claps, c.take = 2 ∧ c.deadline ≤ take2.clock.pt) ∧
      ∀ c ∈ early.pairing.claps, c.take = 2 → early.clock.pt < c.deadline := by
  decide +kernel

/-- A CLOSED take of the last worked clap's group, without rows. -/
def oldTake : Take :=
  { number := 9, scene := [], codeNumber := 0, group := 2, slate := 8, clapPt := 0, labelDiff := none
    isOpen := false, omitted := 0, rows := [] }

/-- The worked clap, with its label and with a label that is invalid. -/
def workedClap (l : Label) : ClapMark := ⟨8, 85012, 85410, l, [83, 67, 48, 49, 50, 65], 3⟩

/-- A full Take Table under SHIFT whose oldest take is the one given, with the clap of take 2 pending. -/
def shifting (oldest : Take) : State :=
  { stage with pairing := { stage.pairing with
    takes := oldest :: List.replicate 63 oldTake, claps := [⟨2, 2, 240000, 242000⟩], policy := .shift } }

/-- A clap of a DAMAGED group with a valid and with an invalid label, and a clap at a full table under SHIFT whose
oldest take is OPEN, and whose oldest is CLOSED. -/
theorem witness_ClapMakesTake_forms :
    let s := stage.setGroup 1 (some ⟨group2, true, true⟩)
    (s.ctx 8).entry.cls = .slate ∧ s.groupAt (s.ctx 8).entry.group = some ⟨group2, true, true⟩ ∧
      s.pairing.takes.length < 64 ∧ s.labelOff ⟨1, 0, 3, 14⟩ 85012 = some 1 ∧
      s.labelOff ⟨24, 0, 3, 14⟩ 85012 = none ∧
      (∀ t ∈ [secondTake, oldTake], ((shifting t).ctx 8).entry.cls = .slate ∧
        (shifting t).groupAt ((shifting t).ctx 8).entry.group = fresh group2 ∧
        (shifting t).pairing.policy = .shift ∧
        (shifting t).pairing.takes = t :: List.replicate 63 oldTake) ∧
      (List.replicate 63 oldTake).length = 63 ∧ secondTake.isOpen = true ∧ oldTake.isOpen = false := by
  decide +kernel

/-- R163: a clap of a DAMAGED group makes a CLOSED take without rows; SLATE_OFF tells an invalid label. -/
theorem test_clap_of_damaged_group :
    let t := handleClap (workedClap ⟨24, 0, 3, 14⟩) (stage.setGroup 1 (some ⟨group2, true, true⟩))
    t.pairing.takes.map (fun x => (x.number, x.isOpen, x.rows.length)) = [(1, false, 0)] ∧
      (t.events[10]).detail = some ([0, 1, 8, 1] ++ beBytes 4 0) := by decide +kernel

/-- R149: under SHIFT the oldest take leaves a full table, its pending clap ended with one UNPAIRED row. -/
theorem test_shift_ends_the_oldest :
    let t := handleClap (workedClap ⟨1, 0, 3, 14⟩) (shifting secondTake)
    t.pairing.takes.length = 64 ∧ (t.pairing.takes.map Take.number).head? = some 9 ∧
      (t.events[7]).detail = some [0, 2, 1] ∧ t.events[11].flag = false := by decide +kernel

/-- Two held transients of one row, both 1,000 from the clap: the oldest is the nearest. -/
theorem witness_ClapMakesTake_held :
    let t := secondTake
    let s : State := { take2 with pairing := { take2.pairing with
      held := [⟨20, 2, 7, 241000, 243000⟩, ⟨20, 2, 8, 239000, 241000⟩] } }
    s.takeNumbered 2 = some t ∧ s.groupAt t.group = some ⟨group2, true, false⟩ ∧
      (∃ r ∈ t.rows, r.slot = 20 ∧ r.status = .pending) ∧
      (∀ r ∈ t.rows, r.slot = 21 → r.status ≠ .pending) ∧
      s.pairing.held = [] ++ ⟨20, 2, 7, 241000, 243000⟩ :: [⟨20, 2, 8, 239000, 241000⟩] ∧
      HeldFits t group2.pairingWindow 20 ⟨20, 2, 7, 241000, 243000⟩ ∧
      ∀ x ∈ [(⟨20, 2, 8, 239000, 241000⟩ : HeldTransient)], HeldFits t group2.pairingWindow 20 x →
        ptGap 241000 t.clapPt ≤ ptGap x.pt t.clapPt := by
  unfold HeldFits
  decide +kernel

/-- The greatest difference that STEP leaves alone, and any under REPORT. -/
theorem witness_PairingResolvesRowAndReanchors :
    (∃ t, take2.takeNumbered t.number = some t ∧
      ∀ e, take2.groupAt t.group = some e →
        e.content.policy = .report ∨
          |(t.clapPt : Int) - (239999 : Nat)| < (e.content.stepThreshold : Int)) ∧
    ((take2.setGroup 1 (fresh { group2 with policy := .report })).groupAt 2).map
      (fun e => e.content.policy) = some .report ∧
    (stage.ctx 20).work = some recorder ∧ (stage.ctx 20).anchor = some ⟨1000000, 80000, 0⟩ := by
  refine ⟨⟨secondTake, by decide +kernel, ?_⟩, by decide +kernel⟩
  intro e h
  have h := take2_group.symm.trans h
  simp only [fresh, Option.some.injEq] at h
  subst h
  exact .inr (by decide)

/-- The least difference that STEP corrects, 2: the latency adjust taken to its limit of -2,000, one beyond it, and
the slot CLOSED. -/
theorem witness_PairingResolvesRowAndReanchors_step :
    let at_ (adjust : Int) : State := take2.setCtx 20 { take2.ctx 20 with adjust := adjust }
    let delta : Int := (240000 : Nat) - (239998 : Nat)
    take2.groupAt 2 = some ⟨group2, true, false⟩ ∧ group2.policy = .step ∧
      (group2.stepThreshold : Int) = |delta| ∧
      ((at_ (-1998)).takeNumbered 2).isSome = true ∧ (at_ (-1998)).groupAt 2 = some ⟨group2, true, false⟩ ∧
      ((at_ (-1998)).ctx 20).state ≠ .closed ∧
      |((at_ (-1998)).ctx 20).adjust - delta| ≤ ((at_ (-1998)).ctx 20).entry.adjustLimit ∧
      (((at_ (-1999)).ctx 20).entry.adjustLimit : Int) < |((at_ (-1999)).ctx 20).adjust - delta| ∧
      ((take2.setCtx 20 {}).ctx 20).state = .closed := by decide +kernel

theorem witness_ExpiriesEndWhatTheyTime :
    let s := anchoredWith fun c => { c with silence := 0 }
    let u : State := { take2 with pairing := { take2.pairing with held := [⟨20, 2, 7, 241000, 242000⟩] } }
    s.alive = true ∧ (s.ctx 3).state = .acquiring ∧ (s.ctx 3).anchor ≠ none ∧ (s.ctx 3).silence = 0 ∧
      u.alive = true ∧ u.mgmt.device = .running ∧ ⟨2, 2, 240000, 242000⟩ ∈ u.pairing.claps ∧
      242000 ≤ u.clock.pt ∧ (u.takeNumbered 2).isSome = true ∧
      u.pairing.held[0]? = some ⟨20, 2, 7, 241000, 242000⟩ := by decide +kernel

/-- Manager node 200 at Port P, levels 2 for SOURCE_LOST and EGRESS_DROP. -/
def managed : State := written live [(14, 200), (20, 2), (31, 2)]

theorem witness_RaisedEventCountsAndNotifies :
    let full : State := { managed with portP := { queue := fullQueue } }
    let mute : State := written full [(31, 0)]
    let dropped := recordEvent .egressDrop [1, 3] full
    managed.events[3].flag = false ∧ managed.managerNode ≠ 0 ∧ managed.threshold < managed.level 3 ∧
      managed.hasRoom managed.managerPort = true ∧
      (recordEvent .sourceLost [3] managed).events[3].flag = true ∧
      live.managerNode = 0 ∧
      full.hasRoom full.managerPort = false ∧ full.threshold < full.level 3 ∧
      full.events[3].flag = false ∧ full.managerNode ≠ 0 ∧
      ((recordEvent .sourceLost [3] full).events[eventIndex .egressDrop]).flag = false ∧
      full.threshold < full.level 14 ∧
      mute.hasRoom mute.managerPort = false ∧ mute.threshold < mute.level 3 ∧ mute.events[3].flag = false ∧
      mute.managerNode ≠ 0 ∧ ((recordEvent .sourceLost [3] mute).events[eventIndex .egressDrop]).flag = false ∧
      mute.level 14 = mute.threshold ∧
      dropped.events[3].flag = false ∧ dropped.hasRoom dropped.managerPort = false ∧
      dropped.managerNode ≠ 0 ∧ dropped.threshold < dropped.level 3 ∧
      ((recordEvent .sourceLost [3] dropped).events[eventIndex .egressDrop]).flag = true := by
  decide +kernel

/-- R190: with EGRESS_DROP's level at the threshold, the drop of SOURCE_LOST's notice is counted once. -/
theorem test_drop_notice_not_wanted :
    let s : State := { written managed [(31, 0)] with portP := { queue := fullQueue } }
    let t := raise .sourceLost [3] s
    t.portP.counters.noticeDrop = 1 ∧ (t.events[14]).count = 1 := by decide +kernel

theorem witness_PortCommandsMoveThePort :
    let s : State := { live with portP := { queue := [[1], [2]], header := some ⟨0, false, true⟩ } }
    s.alive = true ∧ (s.port .post).queue = [1] :: [[2]] ∧ (s.port .post).sending = none ∧
      (s.port .post).heldOff = false ∧ (s.port .stage).queue = [] ∧
      (s.port .post).header = some ⟨0, false, true⟩ := by decide +kernel

/-! ### Witnesses: the House Clock -/

/-- The last milliframe boundary inside a frame. -/
theorem witness_MilliframeBoundaryAdvances :
    let s : State := { live with clock := { live.clock with phase := 1124999, k := 998, pt := 101998 } }
    let n := (s.clock.k + 1) * s.clock.period / 1000 - s.clock.phase
    s.alive = true ∧ Quiet s ∧ NothingEndsWithin n s ∧ s.clock.k < 999 ∧ n = 0 := by
  unfold Quiet NothingEndsWithin
  decide +kernel

/-- The last milliframe of a frame of a run, positions 398, 399, 0 and 1 next for the Scrubber, the tick countdown
at 1. -/
def frameEnding : State :=
  { anchored with
    clock := { anchored.clock with phase := 1125500, k := 999, pt := 101999 }
    tables := { anchored.tables with scrubPos := 398 }
    tick := { countdown := 1, due := false } }

theorem frameEnding_ScrubFindsWhole : ScrubFindsWhole frameEnding := by
  unfold ScrubFindsWhole PositionWhole
  decide +kernel

theorem witness_FrameBoundaryPacesBlocks :
    let s := frameEnding
    s.alive = true ∧ Quiet s ∧ NothingEndsWithin (s.clock.period - s.clock.phase) s ∧ s.clock.k = 999 ∧
      ¬ (s.mgmt.device = .starting ∧ s.tables.walk = .ended) ∧ ScrubFindsWhole s := by
  refine ⟨by decide +kernel, ?_, ⟨by decide +kernel, by decide +kernel⟩, by decide +kernel, by decide +kernel,
    frameEnding_ScrubFindsWhole⟩
  unfold Quiet
  decide +kernel

/-- The same outside a run. -/
theorem witness_FrameBoundaryPacesBlocks_idle :
    let s : State := { frameEnding with mgmt := { frameEnding.mgmt with device := .configuring } }
    s.alive = true ∧ Quiet s ∧ NothingEndsWithin (s.clock.period - s.clock.phase) s ∧ s.clock.k = 999 ∧
      ¬ (s.mgmt.device = .starting ∧ s.tables.walk = .ended) ∧ ScrubFindsWhole s := by
  refine ⟨by decide +kernel, ?_, ⟨by decide +kernel, by decide +kernel⟩, by decide +kernel, by decide +kernel,
    fun h => absurd h (by decide)⟩
  unfold Quiet
  decide +kernel

/-- A state at the last milliframe of a frame with the Scrubber at a position. -/
def visiting (n : Nat) (s : State) : State :=
  { s with
    clock := { s.clock with phase := 1125500, k := 999, pt := 101999 }
    tables := { s.tables with scrubPos := n } }

/-- The source entry of an open context whose check fails, before the Scrubber. -/
def visitingCamera (action : SourceAction) : State :=
  visiting 259 { anchored.setSource 3 (some ⟨camera, false, false⟩) with
    settings := { anchored.settings with sourceAction := action } }

/-- A failing entry where the Scrubber stands: a source entry of an open context under KEEP and under CLOSE, a group
entry with a pending clap, and the last position. -/
theorem witness_FrameBoundaryPacesBlocks_damage :
    let group := visiting 385 (take2.setGroup 1 (some ⟨group2, false, false⟩))
    let last := visiting 399 (anchored.setGroup 15 (some ⟨group2, false, false⟩))
    (∀ s ∈ [visitingCamera .keep, visitingCamera .close, group, last],
      s.alive = true ∧ Quiet s ∧ NothingEndsWithin (s.clock.period - s.clock.phase) s ∧ s.clock.k = 999 ∧
      ¬ (s.mgmt.device = .starting ∧ s.tables.walk = .ended) ∧ s.mgmt.device = .running ∧
      s.tables.scrubPos < 400 ∧ 0 < s.settings.scrubRate) ∧
      ((visitingCamera .close).ctx 3).state ≠ .closed ∧
      (group.pairing.claps.filter fun c => c.group == 2).length = 1 ∧ last.tables.scrubPos = 399 := by
  unfold Quiet NothingEndsWithin
  decide +kernel

/-- R58, R62: the Scrubber's visit finds the damage: KEEP marks the working copy stale, CLOSE closes the context. -/
theorem test_scrub_finds_damage :
    let t := after .frameBoundary (visitingCamera .keep)
    let u := after .frameBoundary (visitingCamera .close)
    (t.events[12]).detail = some [1, 3] ∧ (t.ctx 3).stale = true ∧ (t.ctx 3).state = .acquiring ∧
      (u.ctx 3).state = .closed ∧ u.tables.scrubPos = 263 := by decide +kernel

theorem witness_RunBeginsAtFrameBoundary :
    starting.alive = true ∧ Quiet starting ∧
      NothingEndsWithin (starting.clock.period - starting.clock.phase) starting ∧
      starting.clock.k = 999 ∧ starting.mgmt.device = .starting ∧ starting.tables.walk = .ended := by
  unfold Quiet NothingEndsWithin
  decide +kernel

/-- Period 1,080,000, tolerance 2,700: an interval of half a period less one cycle is noise, one of a period and the
tolerance is good, and one cycle more is bad. -/
theorem witness_RefinPulseIsJudged :
    let rp (s : State) : Nat := s.clock.params.divisor * (houseRate s.clock.params.rate).period
    let noise := pulsed .seeking 1000 540999 1
    let good := pulsed .seeking 1000 1083700 2
    let lock := pulsed .holdover 1000 1078300 3
    let bad := pulsed .seeking 1000 1083701 3
    live.alive = true ∧ live.clock.state = .free ∧
      (inState .configuring).monitor.last = none ∧
      noise.alive = true ∧ noise.clock.state ≠ .free ∧ noise.monitor.last = some 1000 ∧
      2 * (noise.clock.now - 1000) < rp noise ∧
      good.clock.state = .seeking ∧ rp good ≤ 2 * (good.clock.now - 1000) ∧
      good.clock.now - 1000 = rp good + good.clock.params.tolerance ∧
      good.monitor.good + 1 < good.clock.params.lockCount ∧
      lock.clock.state = .holdover ∧ rp lock = lock.clock.now - 1000 + lock.clock.params.tolerance ∧
      lock.clock.params.lockCount ≤ lock.monitor.good + 1 ∧ lock.clock.k < 500 ∧
      ¬ bad.clock.now - 1000 ≤ rp bad + bad.clock.params.tolerance ∧ bad.monitor.armed = true := by
  decide +kernel

/-- SEEKING with no pulse accepted yet. -/
theorem witness_RefinPulseIsJudged_first :
    let s : State := { pulsed .seeking 0 5 0 with monitor := {} }
    s.alive = true ∧ s.clock.state ≠ .free ∧ s.monitor.last = none := by decide +kernel

/-- The lock by a step at milliframe 500, in CONFIGURING and in RUNNING. -/
theorem witness_RefinPulseIsJudged_step :
    let lock := pulsed .seeking 1000 1081000 3
    let step : State := { lock with clock := { lock.clock with k := 500, phase := 540000 } }
    let run : State := { step with
      mgmt := { step.mgmt with device := .running }, clock := { step.clock with pt := 7500 } }
    ∀ s ∈ [step, run], s.alive = true ∧ s.clock.state = .seeking ∧ s.monitor.last = some 1000 ∧
      s.clock.now - 1000 = s.clock.params.divisor * (houseRate s.clock.params.rate).period ∧
      s.clock.params.lockCount ≤ s.monitor.good + 1 ∧ 500 ≤ s.clock.k ∧ Quiet s ∧ ScrubFindsWhole s ∧
      ¬ (s.mgmt.device = .starting ∧ s.tables.walk = .ended) := by
  unfold Quiet ScrubFindsWhole PositionWhole
  decide +kernel

/-- The greatest phase error within the window, 270, on both sides of the boundary, and the least beyond it. -/
theorem witness_LockedPulseRetimesOrLoses :
    let at_ (phase k bad : Nat) : State :=
      let s := pulsed .locked 1000 1081000 0
      { s with clock := { s.clock with phase := phase, k := k }, monitor := { s.monitor with bad := bad } }
    let error (s : State) : Int := if 2 * s.clock.phase ≤ s.clock.period then (s.clock.phase : Int)
      else (s.clock.phase : Int) - s.clock.period
    let late := at_ 270 0 0
    let early := at_ 1079730 999 0
    let out := at_ 271 0 1
    let lost := at_ 271 0 2
    let run : State := { early with
      mgmt := { early.mgmt with device := .running }, clock := { early.clock with pt := 7999 } }
    late.alive = true ∧ late.clock.state = .locked ∧ late.monitor.last = some 1000 ∧
      1 * (houseRate 2).period ≤ 2 * (late.clock.now - 1000) ∧
      error late = 270 ∧ late.clock.params.window = 270 ∧ late.clock.k < 500 ∧
      (∀ s ∈ [early, run], s.alive = true ∧ s.clock.state = .locked ∧ s.monitor.last = some 1000 ∧
        error s = -270 ∧ 500 ≤ s.clock.k ∧ Quiet s ∧ ScrubFindsWhole s ∧
        ¬ (s.mgmt.device = .starting ∧ s.tables.walk = .ended)) ∧
      (out.clock.params.window : Int) < |error out| ∧ out.monitor.bad + 1 < out.clock.params.lossCount ∧
      lost.clock.params.lossCount ≤ lost.monitor.bad + 1 := by
  unfold Quiet ScrubFindsWhole PositionWhole
  decide +kernel

theorem witness_MissingTimerExpires :
    let s := pulsed .locked 1000 3241000 0
    let u := pulsed .seeking 1000 3241000 2
    s.alive = true ∧ s.monitor.missing = true ∧ s.monitor.last = some 1000 ∧
      s.clock.params.lossCount * (s.clock.params.divisor * (houseRate s.clock.params.rate).period) =
        s.clock.now - 1000 ∧
      NothingEndsWithin 0 s ∧ s.clock.state = .locked ∧
      u.alive = true ∧ NothingEndsWithin 0 u ∧ u.clock.state = .seeking := by
  unfold NothingEndsWithin
  decide +kernel

/-- A due tick with room at both ports, and with both queues full. -/
theorem witness_DueTickMakesTwoCells :
    let s : State := { live with tick := { due := true } }
    let full : State := { s with portS := { queue := fullQueue }, portP := { queue := fullQueue } }
    s.alive = true ∧ s.tick.due = true ∧ s.hasRoom .stage = true ∧ s.hasRoom .post = true ∧
      live.tick.due = false ∧
      full.alive = true ∧ full.tick.due = true ∧ full.hasRoom .stage = false ∧ full.hasRoom .post = false := by
  decide +kernel

/-- R40: a full queue drops its tick cell and tells so. -/
theorem test_tick_dropped :
    let t := after .tickDue { live with tick := { due := true }, portP := { queue := fullQueue } }
    t.portP.counters.tickDrop = 1 ∧ (t.events[14]).detail = some [1, 2] ∧ t.portS.queue.length = 1 := by
  decide +kernel

/-- Lines that run, of both kinds of counter, in each mode; lines enabled but not started; the greatest divisor. -/
theorem witness_TickLinesCountAndToggle :
    let running : State := { written (inState .configuring) [(53, 1), (54, 1)] with
      lines := { a := ⟨true, 2, true⟩, b := ⟨true, 1, true⟩ } }
    let new := written (inState .configuring) [(53, 1), (54, 1), (55, 255), (56, 1), (57, 2)]
    let onlyA (s : State) : State := { s with lines := { s.lines with b := ⟨true, 5, true⟩ } }
    let chained := written (linesDue .chained) [(57, 1)]
    let loaded : State := { onlyA chained with lines := { (onlyA chained).lines with bLoaded := true } }
    running.alive = true ∧ linesRun running = true ∧ running.lines.a.started = true ∧
      running.lines.b.started = true ∧ running.inUse 53 = 1 ∧ running.inUse 54 = 1 ∧
      running.inUse 57 = 0 ∧
      linesRun new = true ∧ new.lines.a.started = false ∧ new.lines.b.started = false ∧
      new.inUse 53 = 1 ∧ new.inUse 54 = 1 ∧ new.inUse 55 = 255 ∧ new.inUse 56 = 1 ∧ new.inUse 57 = 2 ∧
      chained.inUse 57 = 1 ∧ chained.lines.b.counter = 0 ∧ chained.lines.mode = .chained ∧
      chained.lines.b.started = true ∧ linesRun chained = true ∧ chained.alive = true ∧
      (onlyA chained).lines.a.counter = 0 ∧ (onlyA chained).lines.b.counter ≠ 0 ∧
      (onlyA chained).lines.a.started = true ∧ linesRun (onlyA chained) = true ∧
      linesRun loaded = true ∧ loaded.lines.bLoaded = true ∧ loaded.lines.a.counter = 0 ∧
      loaded.lines.b.counter ≠ 0 ∧ loaded.lines.a.started = true ∧
      (linesDue .separate).lines.mode ≠ .complement ∧ linesRun (linesDue .separate) = true ∧
      (linesDue .separate).lines.b.counter = 0 ∧ (linesDue .separate).lines.b.started = true := by
  decide +kernel

/-- R21, R22: TICKB of CHAINED that starts with divisor 1 at a boundary where TICKA toggles is loaded there, without a
decrement, and toggles only at TICKA's next toggle. -/
theorem test_chained_tickb_start_keeps_its_load :
    let s : State := { written (inState .configuring) [(53, 1), (54, 1), (55, 1), (56, 1), (57, 1)] with
      lines := { a := ⟨true, 1, true⟩, b := ⟨true, 12, false⟩ } }
    let t := after (.tickLineToggle .a) (frameLines s)
    let u := after (.tickLineToggle .a) (frameLines t)
    t.lines.a = ⟨false, 1, true⟩ ∧ t.lines.b = ⟨true, 1, true⟩ ∧ t.lines.b.due = false ∧
      u.lines.b = ⟨true, 0, true⟩ ∧
      (after .tickbChainedToggle u).lines.b = ⟨false, 1, true⟩ := by decide +kernel

/-- The last position, the first, and a Stream Map entry at position 255 whose check fails. -/
theorem witness_WalkChecksPositionsInOrder :
    let walking (n : Nat) (s : State) : State := { s with tables := { s.tables with walk := .checking n 0 } }
    let s := walking 255 ((inState .starting).setMap 255 (some ⟨⟨⟨63, 3⟩, 1⟩, false, false⟩))
    let last := walking 399 (inState .starting)
    s.alive = true ∧ s.tables.walk = .checking 255 0 ∧
      s.mapAt ⟨255, by decide⟩ = some ⟨⟨⟨63, 3⟩, 1⟩, false, false⟩ ∧
      last.alive = true ∧ last.tables.walk = .checking 399 0 ∧ PositionWhole last 399 ∧
      ∀ j, 399 ≤ j → j < 400 → PositionWhole last j := by
  have h : PositionWhole ({ inState .starting with tables := {
      (inState .starting).tables with walk := .checking 399 0 } } : State) 399 := by
    unfold PositionWhole
    decide +kernel
  refine ⟨by decide +kernel, by decide +kernel, by decide +kernel, by decide +kernel, by decide +kernel,
    h, fun j h1 h2 => ?_⟩
  have : j = 399 := by omega
  subst this
  exact h

/-- Source entry 127 of a CLOSED slot at position 383, source entry 3 of an open one under KEEP and under CLOSE, and
group entries 1 and 16 at positions 384 and 399, a clap of group 2 pending at position 385. -/
theorem witness_WalkChecksPositionsInOrder_damaged :
    let walking (n : Nat) (s : State) : State := { s with tables := { s.tables with walk := .checking n 0 } }
    let spoiled : Stored SourceEntry := ⟨camera, false, false⟩
    let last := walking 383 ((inState .starting).setSource 127 (some spoiled))
    let keep := walking 259 (anchored.setSource 3 (some spoiled))
    let close : State := { keep with settings := { keep.settings with sourceAction := .close } }
    let group (i : Fin 16) : State := walking (384 + i) (take2.setGroup i (some ⟨group2, false, false⟩))
    last.alive = true ∧ last.tables.walk = .checking (256 + (127 : Fin 128)) 0 ∧
      last.sourceAt 127 = some spoiled ∧ (last.ctx 127).state = .closed ∧
      keep.tables.walk = .checking (256 + (3 : Fin 128)) 0 ∧ keep.sourceAt 3 = some spoiled ∧
      (keep.ctx 3).state ≠ .closed ∧ keep.settings.sourceAction = .keep ∧
      close.sourceAt 3 = some spoiled ∧ (close.ctx 3).state ≠ .closed ∧
      close.settings.sourceAction = .close ∧
      (∀ i ∈ [(0 : Fin 16), 1, 15], (group i).alive = true ∧
        (group i).tables.walk = .checking (384 + i) 0 ∧
        (group i).tables.group[i] = some ⟨group2, false, false⟩) ∧
      ((group 1).pairing.claps.filter fun c => c.group == ((1 : Fin 16) : Nat) + 1).length = 1 := by
  decide +kernel

/-! ### Witnesses: power and the boot record -/

/-- RESETn low and high, a header taken at a port. -/
theorem witness_ResetsGivePowerUpValues :
    (after .resetnAssert (headed 5 live)).resetLow = true ∧ (headed 5 live).resetLow = false ∧
      (headed 5 live).portS.header = some ⟨5, false, false⟩ := by
  decide +kernel

/-- The least and the greatest address, a delivered part, a bad check and address 255. -/
theorem witness_BootRecordReadSetsAddress :
    let b (a : Nat) (g : Bool) : State := { State.reset with boot := { address := a, checkGood := g } }
    (b 1 true).alive = true ∧ (b 1 true).mgmt.device = .boot ∧ (b 1 true).boot.reading = true ∧
      (b 1 true).boot.checkGood = true ∧ 1 ≤ (b 1 true).boot.address ∧ (b 254 true).boot.address ≤ 254 ∧
      State.reset.boot.address = 0 ∧ State.reset.boot.checkGood = true ∧ State.reset.boot.reading = true ∧
      (b 7 false).boot.checkGood = false ∧ (b 255 true).boot.address = 255 := by decide +kernel

theorem witness_SaveAddressWritesBootRecord :
    let r := ask 4 []
    let s := asked r (inState .configuring)
    let u : State := { s with
      boot := { s.boot with writing := some 5 }
      mgmt := { s.mgmt with handling := some [[4, 9, 0, 5]] } }
    Awaits s r ∧ r.kind = 4 ∧ s.mgmt.device = .configuring ∧ s.mgmt.address = some 5 ∧
      u.alive = true ∧ u.boot.writing = some 5 ∧ u.mgmt.inbox = r :: [] ∧
      u.mgmt.handling = some [[4, 9, 0, 5]] ∧ u.hasRoom r.port = true := by
  unfold Awaits
  decide +kernel

theorem witness_HandlingAndServiceEndsReply :
    let r := ask 20 [3]
    let s := after .closeSource (asked r live)
    let q := ask 28 [0, 2]
    let u := after .takeQuery (searched q live)
    let b : Request := { ask 7 [] with broadcast := true }
    let h := after .halt (asked b live)
    s.alive = true ∧ s.hasRoom r.port = true ∧ s.mgmt.inbox = r :: [] ∧
      s.mgmt.handling = some [[20, 9, 3]] ∧ s.boot.writing = none ∧
      u.alive = true ∧ u.hasRoom q.port = true ∧ u.locate.queue = q :: [] ∧
      u.locate.service = some [[28, 9, 8]] ∧
      h.alive = true ∧ h.mgmt.inbox = b :: [] ∧ h.mgmt.handling = some [] ∧ h.boot.writing = none := by
  decide +kernel

/-- A reply of four cells at a queue with two places left, and one at a full queue. -/
theorem witness_HandlingAndServiceEndsReply_full :
    let r := ask 23 []
    let s : State := { after .readStatus (asked r live) with portS := { queue := List.replicate 30 [] } }
    let q := ask 28 [0, 2]
    let u : State := { after .takeQuery (searched q take2) with portS := { queue := fullQueue } }
    s.alive = true ∧ s.mgmt.inbox = r :: [] ∧ s.mgmt.handling.map List.length = some 4 ∧
      s.boot.writing = none ∧ s.hasRoom r.port = true ∧
      u.alive = true ∧ u.locate.queue = q :: [] ∧ u.locate.service.map List.length = some 2 ∧
      u.hasRoom q.port = false := by decide +kernel

/-- R40, R175: the first two cells of the four join, the others are dropped and counted. -/
theorem test_reply_cells_dropped :
    let t := after .mgmtHandlingEnd
      { after .readStatus (asked (ask 23 []) live) with portS := { queue := List.replicate 30 [] } }
    t.portS.queue.length = 32 ∧ t.portS.counters.replyDrop = 2 ∧ (t.events[14]).count = 2 ∧
      (t.events[14]).detail = some [0, 1] ∧ t.mgmt.inbox = [] := by decide +kernel

/-! ### Witnesses: management requests -/

/-- MAPs of one and two bytes, an OPEN in CONFIGURING, a MAP in STARTING, and the kinds at both sides of the known
ones. -/
theorem witness_RefusedRequestChangesNothing :
    let short := ask 9 [1, 2]
    let none_ := ask 9 [1]
    let open_ := ask 19 [3]
    let map := ask 9 [1, 2, 3]
    (asked short live).alive = true ∧ (asked short live).mgmt.handling = none ∧
      (asked short live).mgmt.inbox.head? = some short ∧ short.broadcast = false ∧
      mgmtKind .mapKey = some 9 ∧ short.kind = 9 ∧ short.args.length < argNeed 9 ∧
      2 ≤ short.args.length ∧ none_.args.length < argNeed 9 ∧ none_.args.length < 2 ∧
      argNeed 19 ≤ open_.args.length ∧ mgmtKind .openSource = some 19 ∧
      servedIn 19 (asked open_ (inState .configuring)).mgmt.device = false ∧
      argNeed 9 ≤ map.args.length ∧ servedIn 9 (asked map (inState .starting)).mgmt.device = false ∧
      (asked map (inState .starting)).alive = true ∧
      (ask 0 []).kind = 0 ∧ 31 ≤ (ask 31 []).kind := by decide +kernel

/-- A request of each kind whose key, slot, group, table, position or set of classes is the least or the greatest out
of range, with its command. -/
def outOfRange : List (Instr × Request) :=
  [(.mapKey, ask 9 [0, 3, 127]), (.mapKey, ask 9 [255, 0, 0]), (.mapKey, ask 9 [254, 4, 0]),
    (.mapKey, ask 9 [1, 0, 128]), (.unmapKey, ask 10 [0, 0]), (.readMap, ask 11 [1, 255]),
    (.writeSource, ask 12 (sourceArgs.set 0 128)), (.readSource, ask 13 [128]),
    (.writeGroup, ask 14 (List.replicate 10 0)), (.readGroup, ask 15 [0]), (.readGroup, ask 15 [17]),
    (.inject, ask 16 [3, 0]), (.inject, ask 16 [1, 128]), (.inject, ask 16 [2, 0]), (.inject, ask 16 [2, 17]),
    (.openSource, ask 19 [128]), (.closeSource, ask 20 [255]), (.reopenSource, ask 21 [128]),
    (.readContext, ask 22 [255]), (.readEvents, ask 24 (beBytes 3 (2 ^ 18))),
    (.clearEvents, ask 25 [255, 255, 255])]

theorem witness_RefusedRequestChangesNothing_served :
    ∀ x ∈ outOfRange, (asked x.2 live).alive = true ∧ (asked x.2 live).mgmt.handling = none ∧
      (asked x.2 live).mgmt.inbox.head? = some x.2 ∧ x.2.broadcast = false ∧
      mgmtKind x.1 = some x.2.kind ∧ argNeed x.2.kind ≤ x.2.args.length ∧
      servedIn x.2.kind (asked x.2 live).mgmt.device = true := by decide +kernel

theorem witness_RefusedRequestChangesNothing_range : ∀ x ∈ outOfRange, x.2.BadIndex := by
  simp only [outOfRange, List.forall_mem_cons, List.not_mem_nil, false_implies, implies_true, and_true]
  and_intros <;> simp only [Request.BadIndex, Request.BadKey, ask] <;> decide

/-- R48: a MAP refused RANGE for its slot, STATE or BUSY carries its key. -/
theorem test_refused_map_carries_its_key :
    answer .mapKey (asked (ask 9 [14, 1, 128]) (inState .configuring)) = some [[9, 9, 4, 14, 1]] ∧
      answer .mapKey (asked (ask 9 [14, 1, 3]) (inState .starting)) = some [[9, 9, 2, 14, 1]] ∧
      answer .mapKey (asked (ask 9 [14, 1, 3]) (inState .addressing)) = some [[9, 9, 3, 14, 1]] := by
  decide +kernel

theorem witness_AddressRequestsSetTheNode :
    let s (d : DeviceState) (a : Byte) := asked (ask 1 [a]) (inState d)
    let f : State := { asked (ask 3 []) (inState .configuring) with
      locate := { queue := [ask 28 [0, 1], ask 28 [0, 2]], service := some [[28, 9, 8]] } }
    (∀ d ∈ [DeviceState.addressing, .configuring], ∀ a ∈ [(1 : Byte), 254, 0, 255],
      Awaits (s d a) (ask 1 [a]) ∧ (s d a).mgmt.device = d ∧ (ask 1 [a]).arg 0 1 = a.toNat) ∧
      Awaits f (ask 3 []) ∧ f.mgmt.device = .configuring ∧ f.locate.queue ≠ [] ∧
      f.lines.a.due = false ∧ f.lines.b.due = false := by
  unfold Awaits
  decide +kernel

/-- Kinds 2, 18, 23, 24, 22, 13, 11 and 15 in RUNNING, on present and on absent entries. -/
theorem witness_ReadingRequestsChangeNothing :
    let s := anchored.setGroup 1 (fresh group2)
    (∀ k ∈ [2, 18, 23], Awaits (asked (ask k []) s) (ask k [])) ∧
      Awaits (asked (ask 2 []) (inState .addressing)) (ask 2 []) ∧
      (inState .addressing).mgmt.device = .addressing ∧
      Awaits (asked (ask 24 [3, 255, 255]) s) (ask 24 [3, 255, 255]) ∧
      (ask 24 [3, 255, 255]).arg 0 3 = 2 ^ 18 - 1 ∧ s.mgmt.device = .running ∧
      Awaits (asked (ask 22 [127]) s) (ask 22 [127]) ∧ (ask 22 [127]).arg 0 1 = (127 : Fin 128) ∧
      Awaits (asked (ask 13 [3]) s) (ask 13 [3]) ∧ (ask 13 [3]).arg 0 1 = (3 : Fin 128) ∧
      s.sourceAt 3 = fresh camera ∧ s.sourceAt 4 = none ∧
      Awaits (asked (ask 11 [14, 0]) s) (ask 11 [14, 0]) ∧ (ask 11 [14, 0]).key 0 = some ⟨14, 0⟩ ∧
      s.keyPosition ⟨14, 0⟩ = some 224 ∧ s.mapAt 224 = fresh ⟨⟨14, 0⟩, 3⟩ ∧
      (ask 11 [14, 1]).key 0 = some ⟨14, 1⟩ ∧ s.keyPosition ⟨14, 1⟩ = none ∧
      Awaits (asked (ask 15 [2]) s) (ask 15 [2]) ∧ (ask 15 [2]).arg 0 1 = ((1 : Fin 16) : Nat) + 1 ∧
      s.tables.group[(1 : Fin 16)] = fresh group2 ∧
      (ask 15 [16]).arg 0 1 = ((15 : Fin 16) : Nat) + 1 ∧ s.tables.group[(15 : Fin 16)] = none := by
  unfold Awaits
  decide +kernel

/-- The keys of the worked Stream Map sequence. -/
theorem witness_MapAndUnmapRewriteTheMap :
    let r := ask 9 [65, 2, 14]
    let s := asked r mapped
    let m := ask 9 [33, 2, 14]
    let u := ask 10 [33, 2]
    let v := ask 10 [14, 0]
    let l := ask 9 [14, 1, 3]
    Awaits s r ∧ r.key 0 = some ⟨65, 2⟩ ∧ r.arg 2 1 = (14 : Fin 128) ∧ s.mgmt.device = .configuring ∧
      s.keyPosition ⟨65, 2⟩ = none ∧ s.freePosition ⟨65, 2⟩ = none ∧
      Awaits (asked r (mapped.setMap 27 none)) r ∧
      (mapped.setMap 27 none).keyPosition ⟨65, 2⟩ = none ∧
      (mapped.setMap 27 none).freePosition ⟨65, 2⟩ = some 27 ∧
      Awaits (asked m mapped) m ∧ mapped.keyPosition ⟨33, 2⟩ = some 26 ∧
      Awaits (asked l anchored) l ∧ l.key 0 = some ⟨14, 1⟩ ∧ l.arg 2 1 = (3 : Fin 128) ∧
      anchored.mgmt.device = .running ∧ (anchored.ctx 3).state ≠ .closed ∧
      Awaits (asked u mapped) u ∧ u.key 0 = some ⟨33, 2⟩ ∧
      mapped.mapAt 26 = fresh ⟨⟨33, 2⟩, 12⟩ ∧
      Awaits (asked v mapped) v ∧ v.key 0 = some ⟨14, 0⟩ ∧ mapped.keyPosition ⟨14, 0⟩ = none ∧
      Awaits (asked v anchored) v ∧ anchored.keyPosition ⟨14, 0⟩ = some 224 := by
  unfold Awaits
  decide +kernel

/-- RUNNING with the slots concerned CLOSED: a present key, a new key, an UNMAP; and the same present key with the slot
of its entry open. -/
theorem witness_MapAndUnmapRewriteTheMap_running :
    let r := ask 9 [14, 0, 5]
    let n := ask 9 [14, 1, 5]
    let v := ask 10 [14, 0]
    (∀ q ∈ [r, n, v], Awaits (asked q live) q) ∧ live.mgmt.device = .running ∧
      r.key 0 = some ⟨14, 0⟩ ∧ r.arg 2 1 = (5 : Fin 128) ∧ live.keyPosition ⟨14, 0⟩ = some 224 ∧
      live.mapAt 224 = fresh ⟨⟨14, 0⟩, 3⟩ ∧ (live.ctx 3).state = .closed ∧ (live.ctx 5).state = .closed ∧
      live.slotTaken ⟨14, 0⟩ 5 = false ∧
      n.key 0 = some ⟨14, 1⟩ ∧ live.keyPosition ⟨14, 1⟩ = none ∧
      (live.freePosition ⟨14, 1⟩).isSome = true ∧
      Awaits (asked r anchored) r ∧ anchored.keyPosition ⟨14, 0⟩ = some 224 ∧
      anchored.mapAt 224 = fresh ⟨⟨14, 0⟩, 3⟩ ∧ anchored.mgmt.device = .running ∧
      (anchored.ctx 3).state ≠ .closed ∧ (anchored.ctx 5).state = .closed := by
  unfold Awaits
  decide +kernel

/-- A good source write, one of the odd denominator, one of an open slot; group writes at both ends of the groups. -/
theorem witness_TableWritesStoreClamped :
    let w := ask 12 sourceArgs
    let bad := ask 12 (sourceArgs.set 15 0xEA)
    let held := ask 12 (sourceArgs.set 0 3)
    let g := ask 14 ([16] ++ beBytes 3 1 ++ beBytes 2 1 ++ beBytes 2 0 ++ [1, 0])
    let g2 := ask 14 ([1] ++ beBytes 3 1 ++ beBytes 2 1 ++ beBytes 2 0 ++ [2, 0])
    let j := ask 16 [1, 3]
    Awaits (asked w live) w ∧ live.mgmt.device = .running ∧ w.arg 0 1 = (5 : Fin 128) ∧
      (live.ctx 5).state = .closed ∧ structuralGood w = true ∧
      Awaits (asked bad live) bad ∧ bad.arg 0 1 = (5 : Fin 128) ∧ structuralGood bad = false ∧
      Awaits (asked held anchored) held ∧ held.arg 0 1 = (3 : Fin 128) ∧
      (anchored.ctx 3).state ≠ .closed ∧
      Awaits (asked g live) g ∧ g.arg 0 1 = ((15 : Fin 16) : Nat) + 1 ∧ g.arg 8 1 ≤ 1 ∧
      (∀ c ∈ live.pairing.claps, c.group ≠ ((15 : Fin 16) : Nat) + 1) ∧
      Awaits (asked g2 live) g2 ∧ g2.arg 0 1 = ((0 : Fin 16) : Nat) + 1 ∧ 2 ≤ g2.arg 8 1 ∧
      Awaits (asked j live) j ∧ j.arg 0 1 = 1 ∧ j.arg 1 1 = (3 : Fin 128) ∧
      live.sourceAt 3 = some ⟨camera, true, false⟩ := by
  unfold Awaits
  decide +kernel

/-- A write of a group with a pending clap, and INJECT of the first and last entries of the three tables: present,
absent and DAMAGED. -/
theorem witness_TableWritesStoreClamped_live_and_inject :
    let g := ask 14 ([2] ++ beBytes 3 1 ++ beBytes 2 1 ++ beBytes 2 0 ++ [1, 0])
    let s := ((live.setGroup 15 (fresh group2)).setMap 255 (some ⟨⟨⟨63, 3⟩, 1⟩, false, true⟩)).setSource 127
      (some ⟨camera, true, true⟩)
    Awaits (asked g take2) g ∧ take2.mgmt.device = .running ∧ g.arg 0 1 = ((1 : Fin 16) : Nat) + 1 ∧
      (∃ c ∈ take2.pairing.claps, c.group = ((1 : Fin 16) : Nat) + 1) ∧
      (∀ x ∈ [([0, 0] : List Byte), [0, 224], [0, 255], [1, 0], [1, 3], [1, 127], [2, 1], [2, 16]],
        Awaits (asked (ask 16 x) s) (ask 16 x)) ∧ s.mgmt.device = .running ∧
      (ask 16 [0, 255]).arg 1 1 = (255 : Fin 256) ∧ (ask 16 [2, 16]).arg 1 1 = ((15 : Fin 16) : Nat) + 1 ∧
      s.mapAt 0 = none ∧ s.mapAt 224 = fresh ⟨⟨14, 0⟩, 3⟩ ∧ s.mapAt 255 = some ⟨⟨⟨63, 3⟩, 1⟩, false, true⟩ ∧
      s.sourceAt 0 = none ∧ s.sourceAt 3 = fresh camera ∧ s.sourceAt 127 = some ⟨camera, true, true⟩ ∧
      s.tables.group[(0 : Fin 16)] = none ∧ s.tables.group[(15 : Fin 16)] = fresh group2 := by
  unfold Awaits
  decide +kernel

/-- The arguments of a WRITE_PARAMS of some pairs, with bytes after them. -/
def pairArgs (pairs : List (Byte × BitVec 32)) (extra : List Byte) : List Byte :=
  (pairs.map fun x => x.1 :: beBytes 4 x.2.toNat).flatten ++ extra

/-- One pair of the last run field; five pairs, a line's enable off and on again and one live field twice, with four
bytes more; ten pairs and four bytes, the most a request holds; and an unknown code after a known one. -/
theorem witness_ParamsClockAndEventRequests :
    ∀ x ∈ ([([(13, 5)], []), ([(53, 0), (53, 1), (14, 255), (57, 3), (14, 254)], [9, 9, 9, 9]),
        (List.replicate 10 (54, 1), [1, 2, 3, 4]), ([(14, 7), (58, 0)], [])] :
        List (List (Byte × BitVec 32) × List Byte)),
      Awaits (asked (ask 17 (pairArgs x.1 x.2)) (linesDue .complement)) (ask 17 (pairArgs x.1 x.2)) ∧
        x.1 ≠ [] ∧ x.2.length ≤ 4 ∧ (ask 17 (pairArgs x.1 x.2)).args.length ≤ 54 ∧
        (linesDue .complement).mgmt.device = .configuring := by
  simp only [List.forall_mem_cons, List.not_mem_nil, false_implies, implies_true, and_true]
  unfold Awaits
  and_intros <;> first | rfl | decide

/-- CLOCK_APPLY of the defaults, addressed and broadcast; and CLEAR_EVENTS of every class. -/
theorem witness_ParamsClockAndEventRequests_clock :
    let e := ask 25 [3, 255, 255]
    let b : Request := { ask 5 [] with broadcast := true }
    StandsNext (asked (ask 5 []) (inState .configuring)) (ask 5 []) ∧
      StandsNext (asked b (inState .configuring)) b ∧ b.kind = 5 ∧ (inState .configuring).mgmt.device = .configuring ∧
      Awaits (asked e live) e ∧ e.kind = 25 ∧ e.arg 0 3 = 2 ^ 18 - 1 ∧ live.mgmt.device = .running := by
  unfold Awaits StandsNext
  decide +kernel

/-- Writes of the first live field, valid and invalid, of the last, and of the least and the greatest code that names
no field; a CLOCK_APPLY that defaults two fields. -/
theorem witness_ParamsClockAndEventRequests_live :
    let w (c : Byte) (v : BitVec 32) := ask 17 (c :: beBytes 4 v.toNat)
    let s := written (inState .configuring) [(0, 3), (1, 1), (2, 1), (3, 3), (6, 20)]
    (∀ r ∈ [w 14 254#32, w 14 255#32, w 57 2#32, w 57 3#32, w 58 0#32, w 255 0#32],
      Awaits (asked r live) r ∧ r.kind = 17) ∧
      live.mgmt.device = .running ∧ liveValid 14 254 = true ∧ liveValid 14 255 = false ∧
      liveValid 57 2 = true ∧ liveValid 57 3 = false ∧
      (w 14 255#32).args = ([((14 : Byte), 255#32)].map fun x => x.1 :: beBytes 4 x.2.toNat).flatten ++ [] ∧
      StandsNext (asked (ask 5 []) s) (ask 5 []) ∧ s.mgmt.device = .configuring ∧
      s.clockDefaulted = [3, 6] := by
  unfold Awaits StandsNext
  decide +kernel

/-- R182, R184: of two values of one field the later is stored and judged; TICKA's enable off and on again stops the
line. -/
theorem test_writeParams_pairs :
    let t := after .writeParams (asked (ask 17 ([53, 0, 0, 0, 0] ++ [14, 0, 0, 0, 255] ++ [53, 0, 0, 0, 1] ++
      [14, 0, 0, 0, 200])) (written (linesDue .separate) [(53, 1), (54, 1)]))
    t.managerNode = 200 ∧ t.lines.a.started = false ∧ t.lines.b.started = true ∧
      (t.events[15]).flag = false := by decide +kernel

/-- R182: one unknown code, and none of the pairs is written. -/
theorem test_writeParams_unknown_code :
    let s := asked (ask 17 ([14, 0, 0, 0, 200] ++ [58, 0, 0, 0, 0])) live
    answer .writeParams s = some [[17, 9, 4]] ∧ (after .writeParams s).managerNode = 0 := by decide +kernel

/-- R33, R174: CLOCK_APPLY as a broadcast captures and answers nothing. -/
theorem test_broadcast_clockApply :
    let b : Request := { ask 5 [] with broadcast := true }
    let s := asked b (written (inState .configuring) [(0, 3)])
    (after .clockApply s).clock.params.rate = 3 ∧ answer .clockApply s = some [] := by decide +kernel

theorem witness_SourceRequestsOpenAndClose :
    let spoiled := live.setSource 3 (some ⟨camera, false, true⟩)
    (∀ k ∈ [19, 20, 21], Awaits (asked (ask k [3]) live) (ask k [3]) ∧
      Awaits (asked (ask k [3]) anchored) (ask k [3])) ∧
      (ask 19 [3]).arg 0 1 = (3 : Fin 128) ∧ live.mgmt.device = .running ∧ (live.ctx 3).state = .closed ∧
      live.sourceAt 3 = some ⟨camera, true, false⟩ ∧ spoiled.sourceAt 3 = some ⟨camera, false, true⟩ ∧
      (anchored.ctx 3).state ≠ .closed ∧ anchored.sourceAt 3 = some ⟨camera, true, false⟩ ∧
      (∀ k ∈ [19, 21], Awaits (asked (ask k [127]) live) (ask k [127])) ∧ (live.ctx 127).state = .closed ∧
      live.sourceAt 127 = none := by
  unfold Awaits
  decide +kernel

/-- An open context whose PENDING row is the last of an OPEN take. -/
theorem witness_SourceRequestsOpenAndClose_takes :
    let s := take2.setSource 20 (fresh recorder)
    (∀ k ∈ [20, 21], Awaits (asked (ask k [20]) s) (ask k [20])) ∧ s.mgmt.device = .running ∧
      (ask 20 [20]).arg 0 1 = (20 : Fin 128) ∧ (s.ctx 20).state ≠ .closed ∧
      s.sourceAt 20 = some ⟨recorder, true, false⟩ ∧
      s.takesWaitingFor 20 (s.ctx 20).gen = [2] := by
  unfold Awaits
  decide +kernel

/-! ### Witnesses: runs and the Locate Unit -/

/-- RUN addressed and broadcast, with two requests in the locate queue, of which one is in service, and with fields 3,
6 and 8 invalid. -/
theorem witness_RunEntersStarting :
    let u := written (inState .configuring) [(0, 3), (1, 1), (2, 1), (3, 3), (6, 20), (8, 7 * 65536)]
    let v : State := { u with
      locate := { queue := [ask 28 [0, 1], ask 28 [0, 2]], service := some [[28, 9, 8]] } }
    let b : Request := { ask 6 [] with broadcast := true }
    StandsNext (asked (ask 6 []) v) (ask 6 []) ∧ StandsNext (asked b v) b ∧ b.kind = 6 ∧
      v.mgmt.device = .configuring ∧ v.locate.queue ≠ [] ∧ v.clockDefaulted = [3, 6] ∧
      v.runDefaulted = [8] := by
  unfold StandsNext
  decide +kernel

/-- HALT in STARTING and RUNNING, addressed and broadcast, with a PENDING row of an open context and a clap that
remains; broadcasts that CONFIGURING and RUNNING do not accept. -/
theorem witness_HaltEndsTheRun :
    let b (k : Nat) : Request := { ask k [] with broadcast := true }
    (∀ r ∈ [ask 7 [], b 7], StandsNext (asked r (inState .starting)) r ∧ StandsNext (asked r take2) r ∧
      r.kind = 7) ∧ take2.mgmt.device = .running ∧
      take2.takesWaitingFor 20 (take2.ctx 20).gen = [2] ∧ take2.pairing.claps ≠ [] ∧
      StandsNext (asked (b 7) (inState .configuring)) (b 7) ∧ (b 7).broadcast = true ∧
      (Instr.halt, 7) ∈ [(Instr.clockApply, 5), (.run, 6), (.halt, 7)] ∧
      servedIn 7 (inState .configuring).mgmt.device = false ∧
      StandsNext (asked (b 6) live) (b 6) ∧ servedIn 6 live.mgmt.device = false ∧
      StandsNext (asked (b 5) live) (b 5) ∧ servedIn 5 live.mgmt.device = false := by
  unfold StandsNext
  decide +kernel

/-- A run's tick not due and due: TICK_DUE answers a next state, with none due the state itself. -/
theorem witness_HaltEndsTheRun_tick :
    (∃ t, exec .tickDue take2 = .next t ∧ t.pairing = take2.pairing) ∧
      ∃ t, exec .tickDue { take2 with tick := { take2.tick with due := true } } = .next t :=
  ⟨⟨_, rfl, rfl⟩, ⟨_, rfl⟩⟩

/-- R105, R162, R164: HALT with slot 20 alone open fills its segment, makes its PENDING row of take 2 UNPAIRED and
raises one CLAP_UNPAIRED for it. -/
theorem test_halt_ends_segments_and_claps :
    let s : State := { ((take2.setCtx 3 {}).setCtx 8 {}).setCtx 21 {} with
      log := { entries := [{ firstEntry with slot := 20 }], nextSeq := 1 } }
    let t := after .halt (asked (ask 7 []) s)
    t.log.entries.map LogEntry.ending = [some ⟨1000, 100000⟩] ∧ t.pairing.claps = [] ∧
      t.pairing.takes.map (fun x => (x.isOpen, x.rows.map TakeRow.status)) =
        [(false, [.fixed, .unpaired, .disagree])] ∧
      (t.events[7]).count = 1 ∧ (t.events[7]).detail = some [0, 2, 1] := by decide +kernel

theorem witness_ClearKeepsOnlyTheLink :
    let s : State := { asked (ask 8 []) anchored with
      locate := { queue := [ask 28 [0, 1], ask 28 [0, 2]], service := some [[28, 9, 8]] } }
    Awaits s (ask 8 []) ∧ s.mgmt.device = .running ∧ s.locate.queue ≠ [] ∧ s.tick.due = false := by
  unfold Awaits
  decide +kernel

/-- The entries of the worked Log. -/
def logged (n : Nat) : LogEntry := (jumpedLog.log.entries[n]?).getD firstEntry

/-- The searches of the worked locate, at the present picture time and one after it, and the three take searches. -/
theorem witness_LocateRequestsFixTheirAnswers :
    let t (pt : Nat) : Request := ask 26 ([14, 0] ++ beBytes 6 pt)
    let c (n : Nat) : Request := ask 27 ([14, 0] ++ beBytes 5 n)
    let x := ask 26 ([14, 1] ++ beBytes 6 0)
    (∀ r ∈ [t 110000, t 110001, t 102000, t 103000, t 106000, c 1001, c 1201, c 1100, x, ask 28 [0, 2],
        ask 29 (List.replicate 8 0), ask 30 (beBytes 6 0)],
      AwaitsLocate (searched r jumpedLog) r) ∧
      jumpedLog.lookup ⟨14, 0⟩ = some 3 ∧ (t 110000).key 0 = some ⟨14, 0⟩ ∧ x.key 0 = some ⟨14, 1⟩ ∧
      jumpedLog.lookup ⟨14, 1⟩ = none ∧
      jumpedLog.clock.pt < (t 110001).arg 2 6 ∧ (t 110000).arg 2 6 = jumpedLog.clock.pt ∧
      jumpedLog.log.entries = [] ++ logged 0 :: [logged 1, logged 2] ∧
      jumpedLog.log.entries = [logged 0] ++ logged 1 :: [logged 2] ∧
      jumpedLog.log.entries = [logged 0, logged 1] ++ logged 2 :: [] ∧
      (∀ n ∈ [0, 1, 2], (logged n).slot = 3) ∧ (jumpedLog.ctx 3).trimmed = false ∧
      (reverse { rate := 0, rn := 24000, rd := 1001, trim := 0, c0 := 1001, pt0 := 106000 } false
        110000).isSome = true := by
  unfold AwaitsLocate
  decide +kernel

/-- At the bounds of the worked segments: the first covers its end at PT 102,000, the last its anchor at 106,000 and
the current PT; none covers 103,000, nor 99,999 before the first anchor. -/
theorem witness_LocateRequestsFixTheirAnswers_times :
    (logged 0).CoversPt jumpedLog 102000 ∧ ¬ (logged 1).CoversPt jumpedLog 102000 ∧
      ¬ (logged 2).CoversPt jumpedLog 102000 ∧ (logged 2).CoversPt jumpedLog 106000 ∧
      (logged 2).CoversPt jumpedLog 110000 ∧
      ∀ n ∈ [0, 1, 2], ¬ (logged n).CoversPt jumpedLog 103000 ∧ ¬ (logged n).CoversPt jumpedLog 99999 := by
  have h0 : logged 0 = { firstEntry with ending := some ⟨1002, 102000⟩ } := rfl
  have h1 : logged 1 =
    { firstEntry with seq := 1, reason := .jump, c0 := 1200, pt0 := 104000, ending := some ⟨1201, 105000⟩ } := rfl
  have h2 : logged 2 = { firstEntry with seq := 2, reason := .jump, c0 := 1001, pt0 := 106000 } := rfl
  have hd0 : ¬ countDiff 1002 1000 < 0 := by decide
  have hd1 : ¬ countDiff 1201 1200 < 0 := by decide
  have hd2 : ¬ countDiff (jumpedLog.ctx 3).lastCount 1001 < 0 := by decide +kernel
  have hp : jumpedLog.clock.pt = 110000 := rfl
  simp [h0, h1, h2, LogEntry.CoversPt, firstEntry, hd0, hd1, hd2, hp]

/-- The first and the last segment cover count 1,001, the second its end 1,201; none covers 1,100, nor 999 before the
first anchor. -/
theorem witness_LocateRequestsFixTheirAnswers_counts :
    (logged 0).CoversCount jumpedLog 1001 ∧ (logged 2).CoversCount jumpedLog 1001 ∧
      (logged 1).CoversCount jumpedLog 1201 ∧ ¬ (logged 2).CoversCount jumpedLog 1201 ∧
      ∀ n ∈ [0, 1, 2], ¬ (logged n).CoversCount jumpedLog 1100 ∧ ¬ (logged n).CoversCount jumpedLog 999 := by
  unfold LogEntry.CoversCount
  decide +kernel

/-- R129: an anchor whose segment's end lies before it covers its own picture time and count alone. -/
theorem test_backward_segment_covers_its_anchor :
    let back : LogEntry := { firstEntry with ending := some ⟨990, 100500⟩ }
    let s : State := { live with log := { entries := [back], nextSeq := 1 }
                                 clock := { live.clock with pt := 110000 } }
    newestAtPt s 3 100000 = some back ∧ newestAtPt s 3 100001 = none ∧ newestAtCount s 3 1000 = some back ∧
      newestAtCount s 3 999 = none := by decide +kernel

/-- A locate or take request of each kind one byte too short. -/
theorem witness_LocateRequestsFixTheirAnswers_short :
    ∀ x ∈ [(Instr.locateTime, 26), (.locateCount, 27), (.takeQuery, 28), (.takeFind, 29), (.takeAt, 30)],
      let r := ask x.2 (List.replicate (argNeed x.2 - 1) 0)
      (searched r jumpedLog).alive = true ∧ (searched r jumpedLog).locate.service = none ∧
        (searched r jumpedLog).locate.queue.head? = some r ∧ r.args.length < argNeed x.2 ∧
        r.args.length + 1 = argNeed x.2 := by decide +kernel

/-- R132: a short TAKE_QUERY is answered RANGE. -/
theorem test_takeQuery_short :
    (after .takeQuery (searched (ask 28 [0]) take2)).locate.service = some [[28, 9, 4]] := by decide +kernel

/-- A picture time and a count before a trimmed history, the first picture time whose count is out of range, and keys
whose source and stream are the least and the greatest out of range. -/
theorem witness_LocateRequestsFixTheirAnswers_refused :
    let trimmed := jumpedLog.setCtx 3 { jumpedLog.ctx 3 with trimmed := true }
    let old := ask 26 ([14, 0] ++ beBytes 6 99999)
    let far := ask 26 ([14, 0] ++ beBytes 6 164926744167)
    let fast : LogEntry := { firstEntry with c0 := 0, pt0 := 0, rn := 200000000, rd := 1000 }
    let long : State := { trimmed with
      clock := { trimmed.clock with pt := 164926744167, params := { rate := 8 } }
      log := { entries := [fast], nextSeq := 1 } }
    AwaitsLocate (searched old trimmed) old ∧ trimmed.lookup ⟨14, 0⟩ = some 3 ∧
      old.arg 2 6 ≤ trimmed.clock.pt ∧ (trimmed.ctx 3).trimmed = true ∧
      ((trimmed.log.entries.filter fun e => e.slot == 3).head?.map fun e => decide (99999 < e.pt0)) = some true ∧
      AwaitsLocate (searched far long) far ∧ long.lookup ⟨14, 0⟩ = some 3 ∧
      far.arg 2 6 = long.clock.pt ∧ long.log.entries = [] ++ fast :: [] ∧ fast.slot = 3 ∧
      reverse { rate := 8, rn := 200000000, rd := 1000, trim := 0, c0 := 0, pt0 := 0 } false
        164926744167 = none ∧
      (∀ k ∈ [[(0 : Byte), 0], [255, 0], [1, 4], [254, 255]],
        AwaitsLocate (searched (ask 26 (k ++ beBytes 6 0)) live) (ask 26 (k ++ beBytes 6 0)) ∧
        ((ask 26 k).arg 0 1 = 0 ∨ (ask 26 k).arg 0 1 = 255 ∨ 4 ≤ (ask 26 k).arg 1 1)) := by
  unfold AwaitsLocate
  decide +kernel

end Sys2Proof.Tests
end

section
/-! PROOFS. Labels and frame indices (R5 to R9). Both directions pass through the nominal index: a label within the day
and its nominal index determine each other (R6), and drop-frame matches the frame indices of its shorter day with the
nominal indices it does not skip (R7, R8). -/

namespace Sys2Proof.Proofs

open Sys2Proof.Machine

/-! ### Labels and nominal indices (R6) -/

/-- The bounds of R9 on a label's four fields, at nominal rate `f`. -/
def WithinDay (f : Nat) (l : Label) : Prop := l.hh ≤ 23 ∧ l.mm ≤ 59 ∧ l.ss ≤ 59 ∧ l.ff < f

theorem nominalIndex_plainLabel (f n : Nat) : nominalIndex f (plainLabel f n) = n := by
  have seconds : (n / f / 3600 * 60 + n / f / 60 % 60) * 60 + n / f % 60 = n / f := by omega
  simp only [nominalIndex, plainLabel, seconds, Nat.div_add_mod']

theorem plainLabel_nominalIndex {f : Nat} {l : Label} (h : WithinDay f l) :
    plainLabel f (nominalIndex f l) = l := by
  obtain ⟨hh, mm, ss, ff⟩ := l
  obtain ⟨-, hm, hs, hf⟩ : hh ≤ 23 ∧ mm ≤ 59 ∧ ss ≤ 59 ∧ ff < f := h
  obtain ⟨hdiv, hmod⟩ : nominalIndex f ⟨hh, mm, ss, ff⟩ / f = (hh * 60 + mm) * 60 + ss ∧
      nominalIndex f ⟨hh, mm, ss, ff⟩ % f = ff :=
    (Nat.div_mod_unique (by omega)).2 ⟨by unfold nominalIndex; ring, hf⟩
  simp only [plainLabel, hdiv, hmod, Label.mk.injEq, and_true]
  omega

/-- The minute that a nominal index falls in, and its place in that minute. -/
theorem nominalIndex_minute {f : Nat} {l : Label} (h : WithinDay f l) :
    nominalIndex f l / (60 * f) = l.hh * 60 + l.mm ∧ nominalIndex f l % (60 * f) = l.ss * f + l.ff := by
  obtain ⟨-, -, hs, hf⟩ := h
  have place : l.ss * f + l.ff < 60 * f := by
    calc l.ss * f + l.ff < (l.ss + 1) * f := by rw [Nat.succ_mul]; omega
      _ ≤ 60 * f := Nat.mul_le_mul_right f (by omega)
  exact (Nat.div_mod_unique (by omega)).2 ⟨by unfold nominalIndex; ring, place⟩

theorem nominalIndex_lt_day {f : Nat} {l : Label} (h : WithinDay f l) : nominalIndex f l < 86400 * f := by
  have minute := (nominalIndex_minute h).1
  obtain ⟨hh, hm, -, hf⟩ := h
  have lt : nominalIndex f l < 1440 * (60 * f) := (Nat.div_lt_iff_lt_mul (by omega)).1 (by omega)
  omega

theorem plainLabel_withinDay {f n : Nat} (hf : 0 < f) (hn : n < 86400 * f) : WithinDay f (plainLabel f n) := by
  have seconds : n / f < 86400 := (Nat.div_lt_iff_lt_mul hf).2 hn
  have frames : n % f < f := Nat.mod_lt n hf
  simp only [WithinDay, plainLabel]
  omega

/-! ### Nominal indices and frame indices (R7, R8) -/

/-- The nominal index of a frame index: R7's adjusted index under drop-frame. -/
def toNominal (p : ClockParams) (n : Nat) : Nat :=
  if p.dropFrame then adjustedIndex (dropRate p.rate) n else n

/-- The frame index of a nominal index: R8's second step under drop-frame, by the minutes before the index. -/
def ofNominal (p : ClockParams) (i : Nat) : Nat :=
  let t := i / (60 * (houseRate p.rate).nominal)
  if p.dropFrame then i - (dropRate p.rate).perMinute * (t - t / 10) else i

/-- Drop-frame does not step over the nominal index `i`: only a minute not divisible by 10 begins with dropped
labels. -/
def Kept (p : ClockParams) (i : Nat) : Prop :=
  p.dropFrame = true → i / (60 * (houseRate p.rate).nominal) % 10 ≠ 0 →
    (dropRate p.rate).perMinute ≤ i % (60 * (houseRate p.rate).nominal)

theorem labelOfIndex_eq (p : ClockParams) (n : Nat) :
    labelOfIndex p n = plainLabel (houseRate p.rate).nominal (toNominal p n) := rfl

theorem indexOfLabel_eq {p : ClockParams} {l : Label} (h : WithinDay (houseRate p.rate).nominal l) :
    indexOfLabel p l = ofNominal p (nominalIndex (houseRate p.rate).nominal l) := by
  simp only [indexOfLabel, ofNominal, (nominalIndex_minute h).1]

theorem nominal_pos (rate : Nat) : 0 < (houseRate rate).nominal := by
  unfold houseRate; split <;> decide

theorem day_eq (rate : Nat) : (houseRate rate).day = 86400 * (houseRate rate).nominal := by
  unfold houseRate; split <;> rfl

/-- What R1 captures: drop-frame only with codes 3 and 7. -/
def DropAllowed (p : ClockParams) : Prop := p.dropFrame = true → p.rate = 3 ∨ p.rate = 7

/-- R7 lands on a nominal index of the day that drop-frame keeps, and R8 leads back from it. With a row of Table 1-2
written in, every divisor is a literal, and each branch of R7 is linear arithmetic. -/
theorem toNominal_spec {p : ClockParams} (hp : DropAllowed p) {n : Nat} (hn : n < labelDay p) :
    toNominal p n < 86400 * (houseRate p.rate).nominal ∧ Kept p (toNominal p n) ∧
      ofNominal p (toNominal p n) = n := by
  by_cases hd : p.dropFrame = true
  · rcases hp hd with hr | hr <;>
    · simp only [labelDay, toNominal, ofNominal, Kept, adjustedIndex, hd, hr, houseRate, dropRate, if_true,
        forall_const, Nat.reduceEqDiff, if_false] at hn ⊢
      split_ifs <;> omega
  · simp only [labelDay, hd, day_eq] at hn
    simpa [toNominal, ofNominal, Kept, hd] using hn

/-- R8 lands within the label day from every nominal index that drop-frame keeps, and R7 leads back. -/
theorem ofNominal_spec {p : ClockParams} (hp : DropAllowed p) {i : Nat}
    (hi : i < 86400 * (houseRate p.rate).nominal) (hk : Kept p i) :
    ofNominal p i < labelDay p ∧ toNominal p (ofNominal p i) = i := by
  by_cases hd : p.dropFrame = true
  · rcases hp hd with hr | hr <;>
    · simp only [labelDay, toNominal, ofNominal, Kept, adjustedIndex, hd, hr, houseRate, dropRate, if_true,
        forall_const, Nat.reduceEqDiff, if_false] at hi hk ⊢
      split_ifs <;> omega
  · simpa [labelDay, toNominal, ofNominal, hd, day_eq] using hi

/-! ### Valid labels (R9) -/

theorem labelValid_iff (p : ClockParams) (l : Label) :
    labelValid p l = true ↔ WithinDay (houseRate p.rate).nominal l ∧
      ¬ (p.dropFrame = true ∧ l.ss = 0 ∧ l.mm % 10 ≠ 0 ∧ l.ff < (dropRate p.rate).perMinute) := by
  simp only [labelValid, droppedLabel, WithinDay, Bool.and_eq_true, Bool.not_eq_true', ← Bool.not_eq_true,
    decide_eq_true_eq, beq_iff_eq, bne_iff_ne, ne_eq, and_assoc]

theorem lt_perMinute_iff (rate k : Nat) :
    k < (dropRate rate).perMinute ↔ k ≤ if rate = 7 then 3 else 1 := by
  unfold dropRate; split <;> exact Nat.lt_succ_iff

theorem perMinute_le_nominal {p : ClockParams} (hp : DropAllowed p) (hd : p.dropFrame = true) :
    (dropRate p.rate).perMinute ≤ (houseRate p.rate).nominal := by
  rcases hp hd with hr | hr <;> rw [hr] <;> decide

/-- The labels that R9 finds dropped are those whose nominal index drop-frame steps over. -/
theorem kept_nominalIndex_iff {p : ClockParams} (hp : DropAllowed p) {l : Label}
    (h : WithinDay (houseRate p.rate).nominal l) :
    Kept p (nominalIndex (houseRate p.rate).nominal l) ↔
      ¬ (p.dropFrame = true ∧ l.ss = 0 ∧ l.mm % 10 ≠ 0 ∧ l.ff < (dropRate p.rate).perMinute) := by
  obtain ⟨minute, place⟩ := nominalIndex_minute h
  have tens : (l.hh * 60 + l.mm) % 10 = l.mm % 10 := by omega
  simp only [Kept, minute, place, tens]
  by_cases hd : p.dropFrame = true
  · rcases Nat.eq_zero_or_pos l.ss with hs | hs
    · simp [hd, hs]
    · have later : (dropRate p.rate).perMinute ≤ l.ss * (houseRate p.rate).nominal :=
        (perMinute_le_nominal hp hd).trans (Nat.le_mul_of_pos_left _ hs)
      simp [hd, hs.ne', later.trans (Nat.le_add_right _ _)]
  · simp [hd]

theorem labelValid_iff_kept {p : ClockParams} (hp : DropAllowed p) (l : Label) :
    labelValid p l = true ↔ WithinDay (houseRate p.rate).nominal l ∧
      Kept p (nominalIndex (houseRate p.rate).nominal l) := by
  rw [labelValid_iff]
  exact and_congr_right fun h => (kept_nominalIndex_iff hp h).symm

/-! ### The round trips -/

theorem labelOfIndex_valid_and_back {p : ClockParams} (hp : DropAllowed p) {n : Nat} (hn : n < labelDay p) :
    labelValid p (labelOfIndex p n) = true ∧ indexOfLabel p (labelOfIndex p n) = n := by
  obtain ⟨inDay, kept, back⟩ := toNominal_spec hp hn
  have within := plainLabel_withinDay (nominal_pos p.rate) inDay
  rw [labelOfIndex_eq, labelValid_iff_kept hp, indexOfLabel_eq within, nominalIndex_plainLabel]
  exact ⟨⟨within, kept⟩, back⟩

theorem indexOfLabel_lt_and_back {p : ClockParams} (hp : DropAllowed p) {l : Label}
    (hl : labelValid p l = true) :
    indexOfLabel p l < labelDay p ∧ labelOfIndex p (indexOfLabel p l) = l := by
  obtain ⟨within, kept⟩ := (labelValid_iff_kept hp l).1 hl
  obtain ⟨inDay, back⟩ := ofNominal_spec hp (nominalIndex_lt_day within) kept
  rw [indexOfLabel_eq within, labelOfIndex_eq, back]
  exact ⟨inDay, plainLabel_nominalIndex within⟩

/-- Settles O20, through the nominal index. -/
theorem labelsAndIndicesRoundTrip : Obligations.LabelsAndIndicesRoundTrip := by
  intro p _ hp
  refine ⟨fun l => ?_, fun n => labelOfIndex_valid_and_back hp, fun l => indexOfLabel_lt_and_back hp⟩
  simp only [labelValid_iff, lt_perMinute_iff, WithinDay, and_assoc]

end Sys2Proof.Proofs
end

section
/-! PROOFS. The Stage Link path (R29, R30). -/

namespace Sys2Proof.Proofs

open Sys2Proof.Machine Sys2Proof.Laws

/-- A part that is alive receives every cell that no power-up or RESETn has discarded (R29). -/
theorem exec_cellArrival_received (port : Port) (w : Cell) (s : State) (alive : s.alive = true)
    (kept : s.discards port = false) :
    exec (.cellArrival port w) s = .next (arriveCell port w s) := by
  simp [exec, execCellArrival, alive, kept]

/-- Settles O22: the cell is received, and the check it fails keeps it from the Cell Router. -/
theorem damagedCellRaisesLinkDamage : Obligations.DamagedCellRaisesLinkDamage := by
  intro port w s alive kept damaged
  rw [exec_cellArrival_received port w s alive kept, arriveCell_damaged port w s damaged]

end Sys2Proof.Proofs
end

section
/-! PROOFS. Time conversion (R66 to R77). Both directions multiply by the ratio m or its inverse and round once, so what
they share is stated of `roundHalfUp`: its error is at most half a unit (R70), it keeps order, and a value rounded there
and back moves by at most the two half units together. The counts come in only through the signed difference of R68. -/

namespace Sys2Proof.Proofs

open Sys2Proof.Machine

/-! ### The one rounding (R70) -/

/-- R70 over the integers: what the rounding leaves over, times the denominator. -/
theorem roundHalfUp_spec (num : Int) {den : Int} (hden : 0 < den) :
    2 * (den * roundHalfUp num den - num) ≤ den ∧ -den < 2 * (den * roundHalfUp num den - num) := by
  have division := Int.mul_ediv_add_emod (2 * num + den) (2 * den)
  have rest_nonneg := Int.emod_nonneg (2 * num + den) (b := 2 * den) (by omega)
  have rest_lt := Int.emod_lt_of_pos (2 * num + den) (b := 2 * den) (by omega)
  rw [mul_assoc] at division
  unfold roundHalfUp
  omega

theorem roundHalfUp_error (num : Int) {den : Int} (hden : 0 < den) :
    2 * |den * roundHalfUp num den - num| ≤ den := by
  obtain ⟨above, below⟩ := roundHalfUp_spec num hden
  have within := abs_le.2 ⟨below.le, above⟩
  rwa [abs_mul, abs_two] at within

theorem roundHalfUp_mono {a b den : Int} (hden : 0 < den) (h : a ≤ b) :
    roundHalfUp a den ≤ roundHalfUp b den :=
  Int.ediv_le_ediv (by omega) (by omega)

/-- R70 over the rationals. -/
theorem roundHalfUp_sub_div (num : Int) {den : Int} (hden : 0 < den) :
    (roundHalfUp num den : ℚ) - num / den ≤ 1 / 2 ∧ -(1 / 2) < (roundHalfUp num den : ℚ) - num / den := by
  have den_pos : (0 : ℚ) < den := by exact_mod_cast hden
  obtain ⟨above, below⟩ := roundHalfUp_spec num hden
  have above' : 2 * ((den : ℚ) * roundHalfUp num den - num) ≤ den := by exact_mod_cast above
  have below' : -(den : ℚ) < 2 * ((den : ℚ) * roundHalfUp num den - num) := by exact_mod_cast below
  have over_den : (roundHalfUp num den : ℚ) - num / den = (den * roundHalfUp num den - num) / den := by
    rw [sub_div, mul_div_cancel_left₀ _ den_pos.ne']
  rw [over_den, div_le_iff₀ den_pos, lt_div_iff₀ den_pos]
  exact ⟨by linarith, by linarith⟩

/-- The bound that R75 and R76 share: multiplied by `q / p` and rounded, then by `p / q` and rounded, `x` moves by at most
half a unit of its own and the half unit of the value between. -/
theorem roundHalfUp_there_and_back (x : Int) {p q : Int} (hp : 0 < p) (hq : 0 < q) :
    2 * q * |roundHalfUp (roundHalfUp (x * q) p * p) q - x| ≤ p + q := by
  have there := roundHalfUp_error (x * q) hp
  have back := roundHalfUp_error (roundHalfUp (x * q) p * p) hq
  generalize roundHalfUp (x * q) p = y at there back ⊢
  generalize roundHalfUp (y * p) q = z at back ⊢
  calc 2 * q * |z - x|
      = 2 * |q * (z - x)| := by rw [abs_mul, abs_of_pos hq, mul_assoc]
    _ = 2 * |(q * z - y * p) + (p * y - x * q)| := by congr 2; ring
    _ ≤ 2 * |q * z - y * p| + 2 * |p * y - x * q| := by
        rw [← mul_add]; exact mul_le_mul_of_nonneg_left (abs_add_le _ _) zero_le_two
    _ ≤ p + q := by omega

/-- A magnitude within half of `(p + q) / q` is 0 when `p < q`: the exact returns of R75 and R76. -/
theorem eq_zero_of_two_mul_abs_le {d p q : Int} (hlt : p < q) (hq : 0 < q) (h : 2 * q * |d| ≤ p + q) :
    d = 0 := by
  have below_one : 2 * q * |d| < 2 * q * 1 := by omega
  exact Int.abs_lt_one_iff.1 (lt_of_mul_lt_mul_left below_one (by omega))

/-! ### The signed count difference (R68) -/

theorem countDiff_eq_ite (c c0 : Nat) :
    countDiff c c0 = if ((c : Int) - c0) % 2 ^ 40 < 2 ^ 39 then ((c : Int) - c0) % 2 ^ 40
      else ((c : Int) - c0) % 2 ^ 40 - 2 ^ 40 := rfl

theorem countDiff_range (c c0 : Nat) : -(2 ^ 39) ≤ countDiff c c0 ∧ countDiff c c0 ≤ 2 ^ 39 - 1 := by
  rw [countDiff_eq_ite]
  split <;> omega

/-- The signed difference stands for the difference of the counts on the 40-bit circle. -/
theorem countDiff_emod (c c0 : Nat) : countDiff c c0 % 2 ^ 40 = ((c : Int) - c0) % 2 ^ 40 := by
  rw [countDiff_eq_ite]
  split <;> omega

/-- A number within the signed range that stands for the difference on the circle is the signed difference. -/
theorem countDiff_eq {c c0 : Nat} {d : Int} (lower : -(2 ^ 39) ≤ d) (upper : d ≤ 2 ^ 39 - 1)
    (hd : d % 2 ^ 40 = ((c : Int) - c0) % 2 ^ 40) : countDiff c c0 = d := by
  have range := countDiff_range c c0
  have circle := countDiff_emod c c0
  omega

/-- No number that stands for the difference on the circle is smaller than the signed difference. -/
theorem abs_countDiff_le {c c0 : Nat} {e : Int} (he : e % 2 ^ 40 = ((c : Int) - c0) % 2 ^ 40) :
    |countDiff c c0| ≤ |e| := by
  have range := countDiff_range c c0
  have circle := countDiff_emod c c0
  rw [abs_le]
  rcases abs_cases e with ⟨h, _⟩ | ⟨h, _⟩ <;> omega

/-- Two counts lie no further apart on the circle than their differences from a third. -/
theorem abs_countDiff_le_sub (c c' c0 : Nat) : |countDiff c c'| ≤ |countDiff c c0 - countDiff c' c0| := by
  have circle := countDiff_emod c c0
  have circle' := countDiff_emod c' c0
  exact abs_countDiff_le (by omega)

theorem eq_of_countDiff_eq_zero {c c0 : Nat} (hc : c < Config.countModulus) (hc0 : c0 < Config.countModulus)
    (h : countDiff c c0 = 0) : c = c0 := by
  have circle := countDiff_emod c c0
  simp only [Config.countModulus] at hc hc0
  omega

/-- Settles O15. -/
theorem countDifferenceIsSmallestSigned : Obligations.CountDifferenceIsSmallestSigned := by
  intro c c0 _ _
  obtain ⟨lower, upper⟩ := countDiff_range c c0
  exact ⟨lower, upper, countDiff_eq_ite c c0, fun e j h => abs_countDiff_le (by omega)⟩

/-! ### The ratio m (R67) -/

theorem houseRate_pos (rate : Nat) : 0 < (houseRate rate).hn ∧ 0 < (houseRate rate).hd := by
  unfold houseRate; split <;> decide

theorem ratioNum_pos {v : Conversion} (hv : v.InRange) : 0 < ratioNum v := by
  obtain ⟨-, -, -, hrd, htrim, -, -⟩ := hv
  have rd_pos : (0 : Int) < v.rd := by omega
  have hn_pos : (0 : Int) < (houseRate v.rate).hn := by exact_mod_cast (houseRate_pos v.rate).1
  have trim_pos : 0 < 1000000000 + v.trim := by have := (abs_le.1 htrim).1; omega
  unfold ratioNum
  positivity

theorem ratioDen_pos {v : Conversion} (hv : v.InRange) : 0 < ratioDen v := by
  obtain ⟨-, hrn, -⟩ := hv
  have rn_pos : (0 : Int) < v.rn := by omega
  have hd_pos : (0 : Int) < (houseRate v.rate).hd := by exact_mod_cast (houseRate_pos v.rate).2
  unfold ratioDen
  positivity

/-- Settles O16. -/
theorem conversionsRoundHalfUp : Obligations.ConversionsRoundHalfUp := by
  intro v hv h m
  have ratio : m = (ratioNum v : ℚ) / ratioDen v := by
    simp only [m, h, ratioNum, ratioDen]
    push_cast
    norm_num
  constructor
  · intro dc
    have rounded := roundHalfUp_sub_div (dc * ratioNum v) (ratioDen_pos hv)
    rwa [Int.cast_mul, mul_div_assoc, ← ratio] at rounded
  · intro dh
    have rounded := roundHalfUp_sub_div (dh * ratioDen v) (ratioNum_pos hv)
    rwa [Int.cast_mul, ← div_div_eq_mul_div, ← ratio] at rounded

/-! ### Results and clamps (R71, R73, R74) -/

theorem clampPt_of_neg {z : Int} (h : z < 0) : clampPt z = 0 := by
  unfold clampPt; omega

theorem clampPt_of_maxPt_lt {z : Int} (h : (Config.maxPt : Int) < z) : clampPt z = Config.maxPt := by
  unfold clampPt; omega

theorem clampPt_of_within {z : Int} (lower : 0 ≤ z) (upper : z ≤ Config.maxPt) : (clampPt z : Int) = z := by
  unfold clampPt; omega

theorem clampPt_mono {a b : Int} (h : a ≤ b) : clampPt a ≤ clampPt b := by
  unfold clampPt; omega

theorem forward_below {v : Conversion} {c : Nat} (held : Bool) (h : rawPt v c < 0) :
    forward v held c = ⟨0, true⟩ := by
  rw [forward, clampPt_of_neg h, decide_eq_true h, Bool.or_true, Bool.true_or]

theorem forward_above {v : Conversion} {c : Nat} (held : Bool) (h : (Config.maxPt : Int) < rawPt v c) :
    forward v held c = ⟨Config.maxPt, true⟩ := by
  rw [forward, clampPt_of_maxPt_lt h, decide_eq_true h, Bool.or_true]

theorem forward_within {v : Conversion} {c : Nat} (held : Bool) (lower : 0 ≤ rawPt v c)
    (upper : rawPt v c ≤ Config.maxPt) :
    ((forward v held c).value : Int) = rawPt v c ∧ (forward v held c).clamped = held := by
  refine ⟨clampPt_of_within lower upper, ?_⟩
  rw [forward, decide_eq_false lower.not_gt, decide_eq_false upper.not_gt, Bool.or_false, Bool.or_false]

theorem reverse_out_of_range {v : Conversion} {h : Nat} (held : Bool)
    (out : countDelta v ((h : Int) - v.pt0) < -(2 ^ 39) ∨ 2 ^ 39 - 1 < countDelta v ((h : Int) - v.pt0)) :
    reverse v held h = none :=
  if_pos (out.imp id Int.le_of_sub_one_lt)

/-- The count that a reverse conversion finds: the rounded difference from the anchor, on the 40-bit circle (R73). -/
def countAt (v : Conversion) (dc : Int) : Nat := ((v.c0 + dc) % (Config.countModulus : Int)).toNat

theorem reverse_in_range {v : Conversion} {h : Nat} (held : Bool)
    (lower : -(2 ^ 39) ≤ countDelta v ((h : Int) - v.pt0))
    (upper : countDelta v ((h : Int) - v.pt0) ≤ 2 ^ 39 - 1) :
    reverse v held h = some ⟨countAt v (countDelta v ((h : Int) - v.pt0)), held⟩ :=
  if_neg (not_or.2 ⟨lower.not_gt, (Int.lt_of_le_sub_one upper).not_ge⟩)

theorem countAt_eq (v : Conversion) (dc : Int) : (countAt v dc : Int) = (v.c0 + dc) % 2 ^ 40 :=
  Int.toNat_of_nonneg (Int.emod_nonneg _ (by decide))

theorem countAt_lt (v : Conversion) (dc : Int) : countAt v dc < Config.countModulus := by
  have value := countAt_eq v dc
  simp only [Config.countModulus]
  omega

theorem countDiff_countAt {v : Conversion} {dc : Int} (lower : -(2 ^ 39) ≤ dc) (upper : dc ≤ 2 ^ 39 - 1) :
    countDiff (countAt v dc) v.c0 = dc := by
  have value := countAt_eq v dc
  exact countDiff_eq lower upper (by omega)

/-- A reverse result is a count whose signed difference from the anchor is the rounded difference. -/
theorem reverse_some {v : Conversion} {held : Bool} {h : Nat} {r : Converted} (found : reverse v held h = some r) :
    r.value < Config.countModulus ∧ countDiff r.value v.c0 = countDelta v ((h : Int) - v.pt0) := by
  by_cases out : countDelta v ((h : Int) - v.pt0) < -(2 ^ 39) ∨ 2 ^ 39 - 1 < countDelta v ((h : Int) - v.pt0)
  · rw [reverse_out_of_range held out] at found
    contradiction
  · obtain ⟨lower, upper⟩ := not_or.1 out
    rw [reverse_in_range held (not_lt.1 lower) (not_lt.1 upper)] at found
    obtain rfl := Option.some.inj found
    exact ⟨countAt_lt .., countDiff_countAt (not_lt.1 lower) (not_lt.1 upper)⟩

/-- Settles O17. -/
theorem conversionResultsAndClamps : Obligations.ConversionResultsAndClamps := by
  intro v held _
  refine ⟨fun c => ⟨forward_below held, forward_above held, forward_within held⟩, fun h => ?_⟩
  intro dc
  refine ⟨reverse_out_of_range held, fun lower upper => ⟨countAt v dc, ?_⟩⟩
  exact ⟨reverse_in_range held lower upper, countAt_eq v dc, countDiff_countAt lower upper⟩

/-! ### The round trips (R75, R76) -/

/-- R75: the count comes back within the two half units, as the reverse conversion's difference is the forward one's,
rounded there and back. -/
theorem count_round_trip {v : Conversion} (hv : v.InRange) {held : Bool} {c : Nat} {r : Converted}
    (lower : 0 ≤ rawPt v c) (upper : rawPt v c ≤ Config.maxPt)
    (back : reverse v held (forward v held c).value = some r) :
    2 * ratioNum v * |countDiff r.value c| ≤ ratioDen v + ratioNum v := by
  have delta : ((forward v held c).value : Int) - v.pt0 = ptDelta v (countDiff c v.c0) := by
    rw [(forward_within held lower upper).1, rawPt, add_sub_cancel_left]
  have returned : countDiff r.value v.c0 = countDelta v (ptDelta v (countDiff c v.c0)) := by
    rw [(reverse_some back).2, delta]
  calc 2 * ratioNum v * |countDiff r.value c|
      ≤ 2 * ratioNum v * |countDiff r.value v.c0 - countDiff c v.c0| :=
        mul_le_mul_of_nonneg_left (abs_countDiff_le_sub ..) (by have := ratioNum_pos hv; omega)
    _ ≤ ratioDen v + ratioNum v := by
        rw [returned]; exact roundHalfUp_there_and_back _ (ratioDen_pos hv) (ratioNum_pos hv)

/-- R76: the same for the picture time, whose difference from the anchor goes there and back. -/
theorem pt_round_trip {v : Conversion} (hv : v.InRange) {held : Bool} {h : Nat} {r : Converted}
    (found : reverse v held h = some r) (lower : 0 ≤ rawPt v r.value) (upper : rawPt v r.value ≤ Config.maxPt) :
    2 * ratioDen v * |((forward v held r.value).value : Int) - h| ≤ ratioNum v + ratioDen v := by
  have delta : ((forward v held r.value).value : Int) - h =
      ptDelta v (countDelta v ((h : Int) - v.pt0)) - ((h : Int) - v.pt0) := by
    rw [(forward_within held lower upper).1, rawPt, (reverse_some found).2]
    ring
  rw [delta]
  exact roundHalfUp_there_and_back _ (ratioNum_pos hv) (ratioDen_pos hv)

/-- Settles O18: the bounds of both round trips, which leave only 0 when they are below 1. -/
theorem roundTripsWithinHalfUnits : Obligations.RoundTripsWithinHalfUnits := by
  intro v held hv
  constructor
  · intro c r hc lower upper back
    have bound := count_round_trip hv lower upper back
    refine ⟨bound, fun finer => eq_of_countDiff_eq_zero (reverse_some back).1 hc ?_⟩
    exact eq_zero_of_two_mul_abs_le finer (ratioNum_pos hv) bound
  · intro h r _ found lower upper
    have bound := pt_round_trip hv found lower upper
    refine ⟨bound, fun finer => Int.ofNat.inj (sub_eq_zero.1 ?_)⟩
    exact eq_zero_of_two_mul_abs_le finer (ratioDen_pos hv) bound

/-! ### Order (R77) -/

theorem ptDelta_mono {v : Conversion} (hv : v.InRange) {d1 d2 : Int} (h : d1 ≤ d2) : ptDelta v d1 ≤ ptDelta v d2 :=
  roundHalfUp_mono (ratioDen_pos hv) (mul_le_mul_of_nonneg_right h (ratioNum_pos hv).le)

theorem countDelta_mono {v : Conversion} (hv : v.InRange) {d1 d2 : Int} (h : d1 ≤ d2) :
    countDelta v d1 ≤ countDelta v d2 :=
  roundHalfUp_mono (ratioNum_pos hv) (mul_le_mul_of_nonneg_right h (ratioDen_pos hv).le)

/-- Settles O19: the product, the rounding and the clamp each keep order. -/
theorem conversionsPreserveOrder : Obligations.ConversionsPreserveOrder := by
  intro v held hv
  exact ⟨fun c1 c2 h => clampPt_mono (add_le_add_right (ptDelta_mono hv h) _), fun d1 d2 => countDelta_mono hv⟩

end Sys2Proof.Proofs
end

section
/-! PROOFS. What every step keeps, said once of each operation. `Keeps` gathers, block by block, the invariants that any
operation whatever keeps; `Works` adds the frame of the part's inner work, which moves neither the device state nor the
picture time nor the cells that pass through (R43). Each operation of the model has one lemma here, and the nine
invariants of a step are read off them. -/

namespace Sys2Proof.Proofs

open Sys2Proof.Machine Sys2Proof.Laws

/-! ### The blocks in range -/

/-- A port within its capacity and ranges (R38, R39, R42). -/
def PortInRange (x : PortState) : Prop :=
  x.queue.length ≤ Config.egressCapacity ∧ x.counters.InRange ∧ x.sequence < 256

/-- The Anchor Log within its capacity and range (R124). -/
def LogInRange (l : AnchorLog) : Prop :=
  l.entries.length ≤ Config.logCapacity ∧ l.nextSeq < Config.wrap32

/-- The Pairing Unit within its capacities and the range of the take number (R143, R148, R150). -/
def PairingInRange (u : PairingUnit) : Prop :=
  u.takes.length ≤ Config.takeCapacity ∧ u.claps.length ≤ Config.clapCapacity ∧
  u.held.length ≤ Config.heldCapacity ∧ (∀ t ∈ u.takes, t.rows.length ≤ Config.rowCapacity) ∧
  1 ≤ u.nextTake ∧ u.nextTake ≤ 65535

/-- The counters of a port that R43 balances. -/
def passed (c : Counters) : List Nat := [c.arrived, c.damaged, c.consumed, c.forwardedOut, c.overrun]

/-- What every operation keeps, each invariant from its own premise alone. -/
structure Keeps (s t : State) : Prop where
  stage : PortInRange s.portS → PortInRange t.portS
  post : PortInRange s.portP → PortInRange t.portP
  inbox : s.mgmt.inbox.length ≤ Config.inboxCapacity → t.mgmt.inbox.length ≤ Config.inboxCapacity
  queue : s.locate.queue.length ≤ Config.locateCapacity → t.locate.queue.length ≤ Config.locateCapacity
  noise : s.monitor.noise ≤ Config.maxCounter → t.monitor.noise ≤ Config.maxCounter
  scrubPos : s.tables.scrubPos < 400 → t.tables.scrubPos < 400
  log : LogInRange s.log → LogInRange t.log
  numbered : LogNumbered s → LogNumbered t
  pairing : PairingInRange s.pairing → PairingInRange t.pairing
  counters : (∀ i, (s.ctx i).CountersInRange) → ∀ i, (t.ctx i).CountersInRange
  events : EventsSound s ∧ AlarmFollowsFlags s → EventsSound t ∧ AlarmFollowsFlags t
  map : MapUnique s → MapUnique t
  entries : EntriesInRange s → EntriesInRange t
  free : FreeExactlyInternal s → FreeExactlyInternal t
  rests : RestsOutsideRun s → RestsOutsideRun t

/-- The supply and the RESETn line, the device state and the address, and the picture time with milliframe index and
hold stay. -/
structure Stays (s t : State) : Prop where
  powered : t.powered = s.powered
  resetLow : t.resetLow = s.resetLow
  device : t.mgmt.device = s.mgmt.device
  address : t.mgmt.address = s.mgmt.address
  k : t.clock.k = s.clock.k
  hold : t.clock.hold = s.clock.hold
  pt : t.clock.pt = s.clock.pt

/-- What the part's inner work keeps: besides, the counters of R43. -/
structure Works (s t : State) : Prop extends Keeps s t, Stays s t where
  passedS : passed t.portS.counters = passed s.portS.counters
  passedP : passed t.portP.counters = passed s.portP.counters

theorem Keeps.refl (s : State) : Keeps s s where
  stage := id
  post := id
  inbox := id
  queue := id
  noise := id
  scrubPos := id
  log := id
  numbered := id
  pairing := id
  counters := id
  events := id
  map := id
  entries := id
  free := id
  rests := id

theorem Keeps.trans {s t u : State} (h : Keeps s t) (g : Keeps t u) : Keeps s u where
  stage := g.stage ∘ h.stage
  post := g.post ∘ h.post
  inbox := g.inbox ∘ h.inbox
  queue := g.queue ∘ h.queue
  noise := g.noise ∘ h.noise
  scrubPos := g.scrubPos ∘ h.scrubPos
  log := g.log ∘ h.log
  numbered := g.numbered ∘ h.numbered
  pairing := g.pairing ∘ h.pairing
  counters := g.counters ∘ h.counters
  events := g.events ∘ h.events
  map := g.map ∘ h.map
  entries := g.entries ∘ h.entries
  free := g.free ∘ h.free
  rests := g.rests ∘ h.rests

theorem Stays.refl (s : State) : Stays s s := ⟨rfl, rfl, rfl, rfl, rfl, rfl, rfl⟩

theorem Stays.trans {s t u : State} (h : Stays s t) (g : Stays t u) : Stays s u where
  powered := g.powered.trans h.powered
  resetLow := g.resetLow.trans h.resetLow
  device := g.device.trans h.device
  address := g.address.trans h.address
  k := g.k.trans h.k
  hold := g.hold.trans h.hold
  pt := g.pt.trans h.pt

theorem Works.refl (s : State) : Works s s := { Keeps.refl s, Stays.refl s with passedS := rfl, passedP := rfl }

theorem Works.trans {s t u : State} (h : Works s t) (g : Works t u) : Works s u :=
  { h.toKeeps.trans g.toKeeps, h.toStays.trans g.toStays with
    passedS := g.passedS.trans h.passedS
    passedP := g.passedP.trans h.passedP }

theorem Stays.alive {s t : State} (h : Stays s t) : t.alive = s.alive := by
  rw [State.alive, State.alive, h.powered, h.resetLow]

/-- Inner work item by item. -/
theorem Works.foldl {α : Type} (f : State → α → State) (h : ∀ t a, Works t (f t a)) (l : List α) (s : State) :
    Works s (l.foldl f s) := by
  induction l generalizing s with
  | nil => exact .refl s
  | cons a l ih => exact (h s a).trans (ih (f s a))

theorem Works.ite {s t u : State} {p : Prop} [Decidable p] (h : p → Works s t) (g : ¬ p → Works s u) :
    Works s (if p then t else u) := by
  split
  · exact h ‹_›
  · exact g ‹_›

/-! ### Ports (R38 to R42) -/

theorem bump_le (n : Nat) : bump n ≤ Config.maxCounter := Nat.min_le_right _ _

theorem setPort_keeps {s : State} {p : Port} {x : PortState} (range : PortInRange (s.port p) → PortInRange x) :
    Keeps s (s.setPort p x) := by
  cases p
  · exact { Keeps.refl s with stage := range }
  · exact { Keeps.refl s with post := range }

theorem setPort_stays (s : State) (p : Port) (x : PortState) : Stays s (s.setPort p x) := by
  cases p <;> exact { Stays.refl s with }

theorem setPort_works {s : State} {p : Port} {x : PortState} (range : PortInRange (s.port p) → PortInRange x)
    (count : passed x.counters = passed (s.port p).counters) : Works s (s.setPort p x) := by
  cases p
  · exact { Works.refl s with stage := range, passedS := count }
  · exact { Works.refl s with post := range, passedP := count }

/-- A counter of a port that R43 does not balance, changed within its range (R42). -/
theorem countAt_works {s : State} {p : Port} {f : Counters → Counters} (range : ∀ c, c.InRange → (f c).InRange)
    (count : ∀ c, passed (f c) = passed c) : Works s (s.countAt p f) :=
  setPort_works (fun ⟨queue, counters, sequence⟩ => ⟨queue, range _ counters, sequence⟩) (count _)

/-- A port's own counters, spelled out one by one. -/
theorem counters_inRange_iff (c : Counters) : c.InRange ↔
    c.arrived ≤ Config.maxCounter ∧ c.damaged ≤ Config.maxCounter ∧ c.consumed ≤ Config.maxCounter ∧
    c.broadcastTaken ≤ Config.maxCounter ∧ c.shortMarks ≤ Config.maxCounter ∧
    c.alreadyStamped ≤ Config.maxCounter ∧ c.forwardedOut ≤ Config.maxCounter ∧
    c.overrun ≤ Config.maxCounter ∧ c.replyDrop ≤ Config.maxCounter ∧ c.tickDrop ≤ Config.maxCounter ∧
    c.noticeDrop ≤ Config.maxCounter := by
  simp [Counters.InRange]

theorem pushMade_works {s : State} {p : Port} (dest : Byte) (kind : Nat) (d : List Byte)
    (room : s.hasRoom p = true) : Works s (s.pushMade p dest kind d) := by
  have free : (s.port p).queue.length < Config.egressCapacity := of_decide_eq_true room
  refine setPort_works (fun ⟨_, counters, _⟩ => ⟨?_, counters, Nat.mod_lt _ (by decide)⟩) rfl
  simpa using free

/-! ### Events (R186 to R189, R193) -/

theorem recordEvent_sound {c : EventClass} {d : List Byte} {s : State} (short : d.length ≤ 9)
    (sound : EventsSound s) : EventsSound (recordEvent c d s) := by
  intro i
  by_cases own : eventIndex c = i
  · subst own
    obtain ⟨_, detail, _, length⟩ := sound (eventIndex c)
    have recorded : (recordEvent c d s).events[eventIndex c] =
        ⟨true, bumpEvent (s.event c).count, if (s.event c).flag then (s.event c).detail else some d⟩ := by
      simp [recordEvent, State.evalFault]
    have positive : bumpEvent (s.event c).count ≠ 0 := by simp only [bumpEvent, Config.maxEventCount]; omega
    rw [recorded]
    refine ⟨by simp [positive], iff_of_true rfl ?_, Nat.min_le_right _ _, ?_⟩
    · dsimp only
      split
      · next flag => exact detail.1 flag
      · simp
    · dsimp only
      split
      · exact length
      · exact short
  · rw [recordEvent_events_ne s c d i own]
    exact sound i

theorem recordEvent_works {c : EventClass} {d : List Byte} (s : State) (short : d.length ≤ 9) :
    Works s (recordEvent c d s) :=
  { Works.refl s with events := fun ⟨sound, _⟩ => ⟨recordEvent_sound short sound, rfl⟩ }

theorem dropNotice_works (s : State) : Works s (dropNotice s) :=
  countAt_works (fun c h => by rw [counters_inRange_iff] at h ⊢; simp_all [bump_le]) fun _ => rfl

theorem raiseNoticeDrop_works (s : State) : Works s (raiseNoticeDrop s) := by
  have record (t : State) : Works t (recordEvent .egressDrop (dropDetail s.managerPort 3) t) :=
    recordEvent_works t (by simp [dropDetail])
  exact Works.ite (fun _ => (record s).trans ((dropNotice_works _).trans (record _))) fun _ => record s

theorem sendNotice_works (c : EventClass) (d : List Byte) (s : State) : Works s (sendNotice c d s) :=
  Works.ite (fun room => pushMade_works _ _ _ room) fun _ => (dropNotice_works s).trans (raiseNoticeDrop_works _)

theorem raise_works (c : EventClass) {d : List Byte} (s : State) (short : d.length ≤ 9) :
    Works s (raise c d s) :=
  Works.ite (fun _ => (recordEvent_works s short).trans (sendNotice_works c d _)) fun _ => recordEvent_works s short

/-! ### Joining an egress queue (R40) -/

theorem replyDrop_works (p : Port) (s : State) :
    Works s (s.countAt p fun x => { x with replyDrop := bump x.replyDrop }) :=
  countAt_works (fun c h => by rw [counters_inRange_iff] at h ⊢; simp_all [bump_le]) fun _ => rfl

theorem tickDrop_works (p : Port) (s : State) :
    Works s (s.countAt p fun x => { x with tickDrop := bump x.tickDrop }) :=
  countAt_works (fun c h => by rw [counters_inRange_iff] at h ⊢; simp_all [bump_le]) fun _ => rfl

theorem joinReply_works (p : Port) (dest : Byte) (d : List Byte) (s : State) : Works s (joinReply p dest d s) := by
  unfold joinReply
  split
  · next room => exact pushMade_works _ _ _ room
  · exact (replyDrop_works p s).trans (raise_works _ _ (by simp [dropDetail]))

theorem joinTick_works (p : Port) (d : List Byte) (s : State) : Works s (joinTick p d s) := by
  unfold joinTick
  split
  · next room => exact pushMade_works _ _ _ room
  · exact (tickDrop_works p s).trans (raise_works _ _ (by simp [dropDetail]))

theorem joinReplies_works (p : Port) (dest : Byte) (ds : List (List Byte)) (s : State) :
    Works s (joinReplies p dest ds s) :=
  Works.foldl _ (fun t d => joinReply_works p dest d t) ds s

theorem raiseDefaulted_works (codes : List Nat) (s : State) : Works s (raiseDefaulted codes s) :=
  Works.foldl _ (fun t _ => raise_works _ t (by simp)) codes s

/-! ### Source contexts (R99) -/

/-- A context changed in the course of its tracking: not opened, its working copy kept, trim and latency adjust
within the limits, the counters in range. -/
structure Retuned (c d : Context) : Prop where
  counters : c.CountersInRange → d.CountersInRange
  closed : c.state = .closed → d.state = .closed
  work : d.work = c.work
  trim : ∀ w, c.work = some w → |c.trim| ≤ w.trimLimit → |d.trim| ≤ w.trimLimit
  adjust : ∀ w, c.work = some w → |c.adjust| ≤ w.adjustLimit → |d.adjust| ≤ w.adjustLimit

theorem Retuned.refl (c : Context) : Retuned c c := ⟨id, id, rfl, fun _ _ => id, fun _ _ => id⟩

theorem isOpen_iff (c : Context) : c.isOpen = true ↔ c.state ≠ .closed := by simp [Context.isOpen]

/-- Every context replaced by a retuned one. -/
theorem retuned_works {s : State} {v : Vector Context 128} (h : ∀ i : Fin 128, Retuned (s.ctx i) v[i]) :
    Works s { s with contexts := v } :=
  { Works.refl s with
    counters := fun range i => (h i).counters (range i)
    entries := fun ⟨source, group, work, limits⟩ => by
      refine ⟨source, group, fun i isOpen => ?_, fun i w hw => ?_⟩
      · change v[i].work ≠ none
        rw [(h i).work]
        refine work i ((isOpen_iff _).2 fun closed => ?_)
        exact (isOpen_iff _).1 isOpen ((h i).closed closed)
      · have hw' : (s.ctx i).work = some w := (h i).work ▸ hw
        obtain ⟨range, trim, adjust⟩ := limits i w hw'
        exact ⟨range, (h i).trim w hw' trim, (h i).adjust w hw' adjust⟩
    rests := fun rest outside =>
      have ⟨closed, waiting⟩ := rest outside
      ⟨fun i => (h i).closed (closed i), waiting⟩ }

theorem setCtx_works {s : State} {i : Fin 128} {c : Context} (h : Retuned (s.ctx i) c) : Works s (s.setCtx i c) := by
  refine retuned_works fun j => ?_
  change Retuned (s.ctx j) ((s.setCtx i c).ctx j)
  rw [setCtx_ctx]
  split
  · next same => exact same ▸ h
  · exact .refl _

end Sys2Proof.Proofs
end

section
/-! PROOFS. What the Anchor Log, the Pairing Unit and the Tracking Unit keep. -/

namespace Sys2Proof.Proofs

open Sys2Proof.Machine Sys2Proof.Laws

/-! ### The Anchor Log (R124 to R127) -/

/-- Entries that bear consecutive sequence numbers up to the predecessor of `next` (R124). -/
def Consecutive (l : List LogEntry) (next : Nat) : Prop :=
  l.map LogEntry.seq = (List.range l.length).map fun i => (next + Config.wrap32 - l.length + i) % Config.wrap32

theorem logNumbered_iff (s : State) :
    LogNumbered s ↔ LogInRange s.log ∧ Consecutive s.log.entries s.log.nextSeq := and_assoc.symm

theorem numbers_tail (W next n : Nat) (h : n < W) :
    ((List.range (n + 1)).map fun i => (next + W - (n + 1) + i) % W).tail =
      (List.range n).map fun i => (next + W - n + i) % W := by
  rw [List.range_succ_eq_map, List.map_cons, List.tail_cons, List.map_map]
  refine List.map_congr_left fun i _ => congrArg (· % W) ?_
  simp only [Nat.succ_eq_add_one]
  omega

theorem Consecutive.tail {x : LogEntry} {l : List LogEntry} {next : Nat} (full : l.length < Config.logCapacity)
    (h : Consecutive (x :: l) next) : Consecutive l next :=
  (congrArg List.tail h).trans (numbers_tail Config.wrap32 next l.length (full.trans (by decide)))

theorem Consecutive.append {x : LogEntry} {l : List LogEntry} {next : Nat} (seq : x.seq = next)
    (range : next < Config.wrap32) (room : l.length < Config.logCapacity) (h : Consecutive l next) :
    Consecutive (l ++ [x]) ((next + 1) % Config.wrap32) := by
  unfold Consecutive at h ⊢
  simp only [Config.wrap32, Config.logCapacity] at *
  rw [List.map_append, h, List.length_append, List.length_singleton, List.range_succ, List.map_append]
  congr 1
  · refine List.map_congr_left fun i hi => ?_
    have := List.mem_range.1 hi
    omega
  · simp only [List.map_cons, List.map_nil, seq, List.cons.injEq, and_true]
    omega

theorem fillSegment_works (slot : Fin 128) (e : SegmentEnd) (s : State) : Works s (fillSegment slot e s) := by
  have seqs : (filledEntries s slot (some e)).map LogEntry.seq = s.log.entries.map LogEntry.seq := by
    unfold filledEntries
    split <;> simp [Function.comp_def]
  rw [fillSegment_eq]
  refine { Works.refl s with
    log := fun ⟨length, next⟩ => ⟨by simpa using length, next⟩
    numbered := fun ⟨length, next, numbers⟩ => ⟨by simpa using length, next, ?_⟩ }
  simpa [seqs] using numbers

theorem evictOldest_works (s : State) : Works s (evictOldest s) := by
  obtain ⟨same, _⟩ | ⟨x, rest, entries, full, evicted⟩ := evictOldest_cases s
  · rw [same]; exact .refl s
  · rw [evicted]
    have flagged : Works s (s.setCtx x.slot { s.ctx x.slot with trimmed := true }) :=
      setCtx_works ⟨id, id, rfl, fun _ _ => id, fun _ _ => id⟩
    have shorter (h : s.log.entries.length ≤ Config.logCapacity) : rest.length < Config.logCapacity := by
      rw [entries] at h; exact h
    exact { flagged with
      log := fun ⟨length, next⟩ => ⟨(shorter length).le, next⟩
      numbered := fun numbered => by
        obtain ⟨⟨length, next⟩, numbers⟩ := (logNumbered_iff s).1 numbered
        rw [entries] at numbers
        exact (logNumbered_iff _).2 ⟨⟨(shorter length).le, next⟩, numbers.tail (shorter length)⟩ }

theorem evictOldest_nextSeq (s : State) : (evictOldest s).log.nextSeq = s.log.nextSeq := by
  obtain ⟨same, _⟩ | ⟨_, _, _, _, evicted⟩ := evictOldest_cases s
  · rw [same]
  · rw [evicted]

/-- An eviction leaves room for one entry (R125). -/
theorem evictOldest_room_after {s : State} (h : s.log.entries.length ≤ Config.logCapacity) :
    (evictOldest s).log.entries.length < Config.logCapacity := by
  obtain ⟨same, room | none⟩ | ⟨x, rest, entries, full, evicted⟩ := evictOldest_cases s
  · rwa [same]
  · rw [same, none]; decide
  · rw [evicted]
    rw [entries] at h
    exact h

theorem appendAnchor_evictOldest_works (slot : Fin 128) (reason : AnchorReason) (c0 pt0 : Nat) (s : State) :
    Works s (appendAnchor slot reason c0 pt0 (evictOldest s)) := by
  have anchored : Works s ((evictOldest s).setCtx slot
      { (evictOldest s).ctx slot with anchor := some ⟨c0, pt0, (evictOldest s).log.nextSeq⟩ }) :=
    (evictOldest_works s).trans (setCtx_works ⟨id, id, rfl, fun _ _ => id, fun _ _ => id⟩)
  have next_lt : ((evictOldest s).log.nextSeq + 1) % Config.wrap32 < Config.wrap32 := Nat.mod_lt _ (by decide)
  have length (h : s.log.entries.length ≤ Config.logCapacity) :
      ((evictOldest s).log.entries ++ [newEntry (evictOldest s) slot reason c0 pt0]).length ≤ Config.logCapacity := by
    rw [List.length_append]; exact evictOldest_room_after h
  exact { anchored with
    log := fun h => ⟨length h.1, next_lt⟩
    numbered := fun h => by
      obtain ⟨range, numbers⟩ := (logNumbered_iff _).1 ((evictOldest_works s).numbered h)
      exact (logNumbered_iff _).2 ⟨⟨length h.1, next_lt⟩, numbers.append rfl range.2 (evictOldest_room_after h.1)⟩ }

theorem anchorChange_works (slot : Fin 128) (reason : AnchorReason) (c0 pt0 : Nat) (ending : Option SegmentEnd)
    (s : State) : Works s (anchorChange slot reason c0 pt0 ending s) := by
  unfold anchorChange
  cases ending with
  | none => exact appendAnchor_evictOldest_works slot reason c0 pt0 s
  | some e => exact (fillSegment_works slot e s).trans (appendAnchor_evictOldest_works slot reason c0 pt0 _)

theorem reanchorAtArrival_works (slot : Fin 128) (reason : AnchorReason) (count arrival : Nat) (s : State) :
    Works s (reanchorAtArrival slot reason count arrival s) := by
  unfold reanchorAtArrival
  refine Works.trans ?_ (anchorChange_works ..)
  exact setCtx_works ⟨id, id, rfl, fun _ _ => id, fun _ _ => id⟩

theorem entry_of_work {c : Context} {w : SourceEntry} (h : c.work = some w) : c.entry = w := by
  simp [Context.entry, h]

/-- A CLAP re-anchor that the Tracking Unit does not refuse (R122). -/
theorem clapReanchor_works {slot : Fin 128} {delta : Int} {s : State} (count clapPt : Nat)
    (agreed : clapReanchorRefused (s.ctx slot) delta = false) : Works s (clapReanchor slot count clapPt delta s) := by
  unfold clapReanchor
  refine Works.trans ?_ (anchorChange_works ..)
  refine setCtx_works ⟨id, id, rfl, fun _ _ => id, fun w work _ => ?_⟩
  simp only [clapReanchorRefused, Bool.or_eq_false_iff, decide_eq_false_iff_not, not_lt, entry_of_work work] at agreed
  exact agreed.2

/-! ### The Pairing Unit's collections (R143) -/

theorem setPairing_works {s : State} {u : PairingUnit} (range : PairingInRange s.pairing → PairingInRange u)
    (claps : s.mgmt.device ≠ .running → s.pairing.claps = [] → u.claps = [])
    (held : s.mgmt.device ≠ .running → s.pairing.held = [] → u.held = []) : Works s (s.setPairing u) :=
  { Works.refl s with
    pairing := range
    rests := fun rest outside =>
      have ⟨closed, noClap, noHeld⟩ := rest outside
      ⟨closed, claps outside noClap, held outside noHeld⟩ }

/-- The takes changed one by one, no row added. -/
theorem mapTakes_works (s : State) {f : Take → Take} (rows : ∀ t, (f t).rows.length = t.rows.length) :
    Works s (s.setPairing { s.pairing with takes := s.pairing.takes.map f }) := by
  refine setPairing_works (fun ⟨takes, claps, held, eight, next⟩ => ?_) (fun _ => id) (fun _ => id)
  refine ⟨by simpa using takes, claps, held, fun t ht => ?_, next⟩
  obtain ⟨u, hu, rfl⟩ := List.mem_map.1 ht
  exact (rows u).trans_le (eight u hu)

theorem modTake_works (n : Nat) {f : Take → Take} (s : State) (rows : ∀ t, (f t).rows.length = t.rows.length) :
    Works s (s.modTake n f) := by
  refine mapTakes_works s fun t => ?_
  split
  · exact rows t
  · rfl

theorem removeClap_works (n : Nat) (s : State) : Works s (removeClap n s) :=
  setPairing_works
    (fun ⟨takes, claps, rest⟩ => ⟨takes, (List.length_filter_le _ _).trans claps, rest⟩)
    (fun _ none => by simp [none]) (fun _ => id)

/-- The held list shortened (R154, R161, R162). -/
theorem setHeld_works {s : State} {l : List HeldTransient} (fewer : l.Sublist s.pairing.held) :
    Works s (s.setPairing { s.pairing with held := l }) :=
  setPairing_works
    (fun ⟨takes, claps, held, rest⟩ => ⟨takes, claps, fewer.length_le.trans held, rest⟩)
    (fun _ => id) (fun _ none => List.sublist_nil.1 (none ▸ fewer))

/-! ### Claps that end (R159 to R164) -/

theorem endClap_works (n : Nat) (s : State) : Works s (endClap n s) :=
  (modTake_works n s fun t => by simp [Take.ended]).trans
    ((removeClap_works n _).trans (raise_works _ _ (by simp [satBytes])))

theorem draw_works (s : State) : Works s { s with freeDraws := s.freeDraws + 1 } := { Works.refl s with }

theorem endClaps_works (ns : List Nat) (s : State) : Works s (endClaps ns s) :=
  (draw_works s).trans (Works.foldl _ (fun t n => endClap_works n t) _ _)

theorem slotClosed_works (slot : Fin 128) (gen : Nat) (s : State) : Works s (slotClosed slot gen s) :=
  (mapTakes_works s fun t => by rw [slotClosed_leftBy]; unfold Take.leftBy; split <;> simp).trans
    ((endClaps_works _ _).trans (setHeld_works List.filter_sublist))

theorem groupDamaged_works (g : Nat) (s : State) : Works s (groupDamaged g s) := endClaps_works _ _

theorem expireTransient_works (i : Nat) (s : State) : Works s (expireTransient i s) := by
  unfold expireTransient
  split
  · split
    · exact (setHeld_works (List.eraseIdx_sublist ..)).trans (raise_works _ _ (by simp [transientDetail]))
    · exact .refl s
  · exact .refl s

/-! ### Pairing a row (R156 to R158) -/

theorem closeIfResolved_works (n : Nat) (s : State) : Works s (closeIfResolved n s) := by
  unfold closeIfResolved
  split
  · split
    · exact .refl s
    · refine Works.trans ?_ (removeClap_works n _)
      exact modTake_works n s fun _ => rfl
  · exact .refl s

theorem resolve_works (n : Nat) (slot : Fin 128) (count : Nat) (delta : Int) (status : RowStatus) (s : State) :
    Works s (s.modTake n fun t => t.resolve slot count delta status) :=
  modTake_works n s fun t => by simp [Take.resolve]

theorem pairRow_works (t : Take) (slot : Fin 128) (count pt : Nat) (s : State) :
    Works s (pairRow t slot count pt s) := by
  unfold pairRow
  refine Works.trans ?_ (closeIfResolved_works ..)
  split
  · split
    · exact (resolve_works ..).trans (raise_works _ _ (by simp [signedBytes]))
    · next agreed => exact (resolve_works ..).trans (clapReanchor_works _ _ (by simpa using agreed))
  · exact resolve_works ..

/-! ### Making a take (R149 to R153) -/

theorem endClap_takes_length (n : Nat) (s : State) :
    (endClap n s).pairing.takes.length = s.pairing.takes.length := by
  simp [endClap, removeClap, State.modTake, State.setPairing]

theorem endClap_claps (n : Nat) (s : State) :
    (endClap n s).pairing.claps = s.pairing.claps.filter fun c => c.take != n := by
  simp [endClap, removeClap, State.modTake, State.setPairing]

theorem shiftTakes_works (s : State) : Works s (shiftTakes s) := by
  have dropOldest (u : State) :
      Works u (u.setPairing { u.pairing with takes := u.pairing.takes.drop 1 }) :=
    setPairing_works (fun ⟨takes, claps, held, eight, next⟩ => ⟨by simp; omega, claps, held,
      fun t ht => eight t (List.mem_of_mem_drop ht), next⟩) (fun _ => id) (fun _ => id)
  unfold shiftTakes
  split
  · exact .refl s
  · exact Works.trans (Works.ite (fun _ => endClap_works _ s) fun _ => .refl s) (dropOldest _)

/-- SHIFT leaves a place in the Take Table (R149). -/
theorem shiftTakes_room {s : State} (h : s.pairing.takes.length ≤ Config.takeCapacity) :
    (shiftTakes s).pairing.takes.length < Config.takeCapacity := by
  unfold shiftTakes
  split
  · next none => rw [none]; decide
  · next t rest takes =>
    simp only [State.setPairing, List.length_drop]
    split
    · rw [endClap_takes_length]; simp only [takes, List.length_cons, Config.takeCapacity] at h ⊢; omega
    · simp only [takes, List.length_cons, Config.takeCapacity] at h ⊢; omega

/-- A take joins the table of a state `u` in which there is room for it. -/
theorem addTake_works {s u : State} {t : Take} (w : Works s u)
    (room : PairingInRange s.pairing → u.pairing.takes.length < Config.takeCapacity)
    (rows : t.rows.length ≤ Config.rowCapacity) : Works s (addTake t u) :=
  { w with
    pairing := fun range => by
      obtain ⟨_, claps, held, eight, first, last⟩ := w.pairing range
      have place := room range
      refine ⟨by simpa [addTake, State.setPairing] using place, claps, held, fun x hx => ?_, ?_⟩
      · obtain old | new := List.mem_append.1 hx
        · exact eight x old
        · rw [List.mem_singleton.1 new]; exact rows
      · change 1 ≤ followingTake u.pairing.nextTake ∧ followingTake u.pairing.nextTake ≤ 65535
        unfold followingTake
        split <;> omega }

/-- A clap joins the list of a state `u` in which there is room for it. -/
theorem pushClap_works {s u : State} (c : PendingClap) (w : Works s u) (run : s.mgmt.device = .running)
    (room : s.pairing.claps.length ≤ Config.clapCapacity → u.pairing.claps.length < Config.clapCapacity) :
    Works s (u.setPairing { u.pairing with claps := u.pairing.claps ++ [c] }) :=
  { w with
    pairing := fun range =>
      have ⟨takes, _, held, rest⟩ := w.pairing range
      ⟨takes, by simpa using room range.2.1, held, rest⟩
    rests := fun _ outside => absurd (w.device.trans run) outside }

theorem addClap_works {s : State} (c : PendingClap) (run : s.mgmt.device = .running) : Works s (addClap c s) := by
  unfold addClap
  refine pushClap_works c (Works.ite (fun _ => .refl s) fun _ => ?_) run fun full => ?_
  · split
    · exact .refl s
    · exact endClap_works _ s
  · split
    · assumption
    · split
      · next none => rw [none]; decide
      · next x rest claps =>
        rw [endClap_claps, claps, List.filter_cons_of_neg (by simp)]
        rw [claps] at full
        exact (List.length_filter_le _ _).trans_lt full

theorem addClap_takes_length (c : PendingClap) (s : State) :
    (addClap c s).pairing.takes.length = s.pairing.takes.length := by
  unfold addClap
  simp only [State.setPairing]
  split
  · rfl
  · split
    · rfl
    · exact endClap_takes_length _ s

theorem visitRow_works (n : Nat) (slot : Fin 128) (s : State) : Works s (visitRow n slot s) := by
  unfold visitRow
  split
  · exact .refl s
  · split
    · split
      · exact .refl s
      · exact (setHeld_works List.erase_sublist).trans (pairRow_works ..)
    · exact .refl s

theorem endIfPast_works (n : Nat) (s : State) : Works s (endIfPast n s) :=
  Works.ite (fun _ => endClap_works n s) fun _ => .refl s

theorem slateOffDetail_length (n : Nat) (slate : Fin 128) (diff : Option Int) :
    (slateOffDetail n slate diff).length ≤ 9 := by simp [slateOffDetail, signedBytes]

theorem slateOff_works (u : State) (off : Bool) (n : Nat) (slate : Fin 128) (diff : Option Int) :
    Works u (if off then raise .slateOff (slateOffDetail n slate diff) u else u) :=
  Works.ite (fun _ => raise_works _ u (slateOffDetail_length ..)) fun _ => .refl u

theorem slateOff_pairing (u : State) (off : Bool) (n : Nat) (slate : Fin 128) (diff : Option Int) :
    (if off then raise .slateOff (slateOffDetail n slate diff) u else u).pairing = u.pairing := by
  split <;> simp

/-- A take made in a state `u` in which there is room for it (R150 to R153). -/
theorem makeTake_works {s u : State} (m : ClapMark) (g : Nat) (e : GroupEntry) (w : Works s u)
    (room : PairingInRange s.pairing → u.pairing.takes.length < Config.takeCapacity)
    (run : s.mgmt.device = .running) : Works s (makeTake m g e u) := by
  unfold makeTake
  dsimp only
  have eight : (((rollingMembers u g e.rollingLimit m).take Config.rowCapacity).map (rowFor u m.pt)).length ≤
      Config.rowCapacity := by
    simp
  split
  · refine Works.trans ?_ (endIfPast_works ..)
    refine Works.trans ?_ (Works.foldl _ (fun t i => visitRow_works _ i t) _ _)
    refine addTake_works (w.trans ((slateOff_works ..).trans (addClap_works _ ?_))) ?_ eight
    · exact (slateOff_works ..).device.trans (w.device.trans run)
    · rw [addClap_takes_length, slateOff_pairing]
      exact room
  · refine addTake_works (w.trans (slateOff_works ..)) ?_ eight
    rw [slateOff_pairing]
    exact room

theorem makeDamagedTake_works {s u : State} (m : ClapMark) (g : Nat) (w : Works s u)
    (room : PairingInRange s.pairing → u.pairing.takes.length < Config.takeCapacity) :
    Works s (makeDamagedTake m g u) := by
  unfold makeDamagedTake
  dsimp only
  refine addTake_works (w.trans (Works.ite (fun _ => raise_works _ u (slateOffDetail_length ..)) fun _ => .refl u))
    (fun range => ?_) (Nat.zero_le _)
  have := room range
  split <;> simpa

theorem clapTake_works {s : State} {m : ClapMark} (g : Nat) (e : Stored GroupEntry)
    (run : s.mgmt.device = .running) (scene : m.scene.length ≤ 6) : Works s (clapTake m g e s) := by
  unfold clapTake
  refine Works.ite (fun _ => raise_works _ s (by simp; omega)) fun _ => ?_
  dsimp only
  have made : Works s (if tableFull s = true then shiftTakes s else s) :=
    Works.ite (fun _ => shiftTakes_works s) fun _ => .refl s
  have room (range : PairingInRange s.pairing) :
      (if tableFull s = true then shiftTakes s else s).pairing.takes.length < Config.takeCapacity := by
    split
    · exact shiftTakes_room range.1
    · next free => simpa [tableFull] using free
  exact Works.ite (fun _ => makeDamagedTake_works m g made room) fun _ => makeTake_works m g _ made room run

theorem handleClap_works {s : State} {m : ClapMark} (run : s.mgmt.device = .running) (scene : m.scene.length ≤ 6) :
    Works s (handleClap m s) := by
  unfold handleClap
  dsimp only
  split
  · split
    · exact clapTake_works _ _ run scene
    · exact .refl s
  · exact .refl s

/-! ### Transients (R145, R154, R155) -/

/-- A transient joins the list of a state `u` in which there is room for it. -/
theorem pushHeld_works {s u : State} (h : HeldTransient) (w : Works s u) (run : s.mgmt.device = .running)
    (room : s.pairing.held.length ≤ Config.heldCapacity → u.pairing.held.length < Config.heldCapacity) :
    Works s (u.setPairing { u.pairing with held := u.pairing.held ++ [h] }) :=
  { w with
    pairing := fun range =>
      have ⟨takes, claps, _, rest⟩ := w.pairing range
      ⟨takes, claps, by simpa using room range.2.2.1, rest⟩
    rests := fun _ outside => absurd (w.device.trans run) outside }

theorem holdTransient_works {s : State} (h : HeldTransient) (run : s.mgmt.device = .running) :
    Works s (holdTransient h s) := by
  unfold holdTransient
  refine Works.ite (fun _ => raise_works _ s (by simp [transientDetail])) fun _ => ?_
  refine pushHeld_works h (Works.ite (fun _ => .refl s) fun _ => ?_) run fun full => ?_
  · split
    · exact .refl s
    · next held =>
      exact (setHeld_works (held ▸ List.sublist_cons_self ..)).trans (raise_works _ _ (by simp [transientDetail]))
  · split
    · assumption
    · split
      · next none => rw [none]; decide
      · next x rest held => rw [held] at full; simpa [State.setPairing] using full

theorem handleTransient_works {s : State} (slot : Fin 128) (count pt : Nat) (run : s.mgmt.device = .running) :
    Works s (handleTransient slot count pt s) := by
  unfold handleTransient
  dsimp only
  split
  · split
    · split
      · exact pairRow_works ..
      · exact .refl s
    · exact holdTransient_works _ run
  · exact .refl s

end Sys2Proof.Proofs
end

section
/-! PROOFS. What the Tracking Unit, the checks of the Table Store and the Tick Generator keep. -/

namespace Sys2Proof.Proofs

open Sys2Proof.Machine Sys2Proof.Laws

/-! ### Opening and closing (R103, R105) -/

theorem ctxCounters_iff (c : Context) : c.CountersInRange ↔
    c.gen < Config.wrap32 ∧ c.marks ≤ Config.maxCounter ∧ c.missed ≤ Config.maxCounter ∧
    c.duplicates ≤ Config.maxCounter ∧ c.slips ≤ Config.maxCounter ∧ c.jumps ≤ Config.maxCounter := by
  simp [Context.CountersInRange]

theorem openedContext_counters (w : SourceEntry) (c : Context) : (openedContext w c).CountersInRange := by
  rw [ctxCounters_iff]
  exact ⟨Nat.mod_lt _ (by decide), Nat.zero_le _, Nat.zero_le _, Nat.zero_le _, Nat.zero_le _, Nat.zero_le _⟩

theorem validSource_some {s : State} {slot : Fin 128} {w : SourceEntry} (h : validSource s slot = some w) :
    ∃ e, s.sourceAt slot = some e ∧ e.damaged = false ∧ e.content = w := by
  unfold validSource validContent at h
  split at h
  · next e found =>
    split at h
    · contradiction
    · next sound => exact ⟨e, found, by simpa using sound, Option.some.inj h⟩
  · contradiction

/-- An open takes its working copy from the Source Table, in a run (R85, R103). -/
theorem openContext_works {slot : Fin 128} {w : SourceEntry} {s : State} (found : validSource s slot = some w)
    (run : s.mgmt.device = .running) : Works s (openContext slot w s) :=
  { Works.refl s with
    counters := fun range i => by
      change (State.ctx (s.setCtx slot _) i).CountersInRange
      rw [setCtx_ctx]
      split
      · exact openedContext_counters ..
      · exact range i
    entries := fun ⟨source, group, work, limits⟩ => by
      obtain ⟨e, at_slot, _, rfl⟩ := validSource_some found
      have range : e.content.InRange := source slot e at_slot
      have trim : |e.content.initialTrim| ≤ e.content.trimLimit := by
        obtain ⟨_, _, _, _, _, _, _, _, _, _, _, _, _, _, _, _, _, _, _, _, initial, _⟩ := range
        exact initial
      refine ⟨source, group, fun i => ?_, fun i v => ?_⟩
      · change (State.ctx (s.setCtx slot _) i).isOpen = true → (State.ctx (s.setCtx slot _) i).work ≠ none
        rw [setCtx_ctx]
        split
        · exact fun _ => Option.some_ne_none _
        · exact work i
      · change (State.ctx (s.setCtx slot _) i).work = some v → _
        rw [openContext, setCtx_ctx]
        split
        · intro copy
          obtain rfl := Option.some.inj copy
          exact ⟨range, trim, by simp [openedContext]⟩
        · exact limits i v
    rests := fun _ outside => absurd run outside }

theorem closeContext_works (slot : Fin 128) (s : State) : Works s (closeContext slot s) := by
  unfold closeContext
  refine Works.trans ?_ (slotClosed_works ..)
  refine (fillSegment_works ..).trans (setCtx_works ?_)
  rw [fillSegment_eq]
  exact ⟨id, fun _ => rfl, rfl, fun _ _ => id, fun _ _ => id⟩

theorem closeAll_works (s : State) : Works s (closeAll s) :=
  (draw_works s).trans (Works.foldl _ (fun t i => closeContext_works i t) _ _)

/-! ### PACE marks (R108 to R119) -/

theorem clampTrim_abs (limit : Nat) (z : Int) : |clampTrim limit z| ≤ limit := by
  unfold clampTrim
  rw [abs_le]
  omega

theorem raise_ctx (c : EventClass) (d : List Byte) (s : State) (i : Fin 128) : (raise c d s).ctx i = s.ctx i := by
  simp only [State.ctx, raise_contexts]

theorem windowState_closed {st : ContextState} (within : Bool) (h : st = .closed) :
    windowState st within = .closed := by
  subst h
  cases within <;> rfl

theorem windowClose_works (slot : Fin 128) (count converted : Nat) (s : State) :
    Works s (windowClose slot count converted s) := by
  unfold windowClose
  refine Works.trans ?_ (anchorChange_works ..)
  refine Works.trans (Works.ite (fun _ => .refl s) fun _ => raise_works .trimLimit s ?_) (setCtx_works ?_)
  · simp [signedBytes]
  · have same : State.ctx (if clampTrim (s.ctx slot).entry.trimLimit (unclampedTrim (s.ctx slot)) =
        unclampedTrim (s.ctx slot) then s
      else raise .trimLimit ([byteOf slot] ++ signedBytes 4 (unclampedTrim (s.ctx slot))) s) slot = s.ctx slot := by
      split
      · rfl
      · exact raise_ctx ..
    rw [same]
    refine ⟨id, windowState_closed _, rfl, fun w work _ => ?_, fun _ _ => id⟩
    rw [entry_of_work work]
    exact clampTrim_abs ..

theorem anchoredPace_works (slot : Fin 128) (reason : AnchorReason) (count arrival : Nat) (s : State) :
    Works s (anchoredPace slot reason count arrival s).state := reanchorAtArrival_works ..

/-- A context's counters moved, and the state if the context is open. -/
theorem retuned_of_open {c d : Context} (isOpen : c.state ≠ .closed) (counters : c.CountersInRange → d.CountersInRange)
    (work : d.work = c.work) (trim : d.trim = c.trim) (adjust : d.adjust = c.adjust) : Retuned c d :=
  ⟨counters, fun closed => absurd closed isOpen, work, fun _ _ => by rw [trim]; exact id,
    fun _ _ => by rw [adjust]; exact id⟩

theorem jumpPace_works {slot : Fin 128} {s : State} (count arrival : Nat) (delta : Int)
    (isOpen : (s.ctx slot).state ≠ .closed) : Works s (jumpPace slot count arrival delta s).state := by
  unfold jumpPace
  refine Works.trans ?_ (raise_works _ _ (by simp [signedBytes]))
  refine Works.trans ?_ (anchoredPace_works ..)
  refine setCtx_works (retuned_of_open isOpen (fun h => ?_) rfl rfl rfl)
  rw [ctxCounters_iff] at h ⊢
  simp_all [bump_le]

theorem slipPace_works {slot : Fin 128} {s : State} (count arrival : Nat) (e : Int)
    (isOpen : (s.ctx slot).state ≠ .closed) : Works s (slipPace slot count arrival e s).state := by
  unfold slipPace
  refine Works.trans ?_ (raise_works _ _ (by simp [signedBytes]))
  refine Works.trans ?_ (anchoredPace_works ..)
  refine setCtx_works (retuned_of_open isOpen (fun h => ?_) rfl rfl rfl)
  rw [ctxCounters_iff] at h ⊢
  simp_all [bump_le]

theorem absorbPace_works (slot : Fin 128) (count arrival : Nat) (v : Converted) (s : State) :
    Works s (absorbPace slot count arrival v s).state := by
  unfold absorbPace
  dsimp only
  have absorbed : Works s (s.setCtx slot { s.ctx slot with
      windowSum := (s.ctx slot).windowSum + markError (s.ctx slot) v.value arrival
      windowCount := (s.ctx slot).windowCount + 1, lastCount := count, lastArrival := arrival
      lastConverted := v.value, silence := (s.ctx slot).entry.silenceLimit }) :=
    setCtx_works ⟨id, id, rfl, fun _ _ => id, fun _ _ => id⟩
  exact Works.ite (fun _ => absorbed.trans (windowClose_works ..)) fun _ => absorbed

theorem normalPace_works {slot : Fin 128} {s : State} (a : Anchor) (count arrival : Nat)
    (isOpen : (s.ctx slot).state ≠ .closed) : Works s (normalPace slot a count arrival s).state := by
  unfold normalPace
  dsimp only
  split
  · exact slipPace_works _ _ _ isOpen
  · exact absorbPace_works ..

theorem cadencePace_works {slot : Fin 128} {s : State} (a : Anchor) (count arrival : Nat)
    (isOpen : (s.ctx slot).state ≠ .closed) : Works s (cadencePace slot a count arrival s).state := by
  unfold cadencePace
  dsimp only
  split
  · refine setCtx_works (retuned_of_open isOpen (fun h => ?_) rfl rfl rfl)
    rw [ctxCounters_iff] at h ⊢
    simp_all [bump_le]
  · split
    · refine Works.trans ?_ (normalPace_works _ _ _ (by simpa using isOpen))
      refine setCtx_works (retuned_of_open isOpen (fun h => ?_) rfl rfl rfl)
      rw [ctxCounters_iff] at h ⊢
      simp_all
    · exact jumpPace_works _ _ _ isOpen

theorem pace_works {slot : Fin 128} {s : State} (count arrival : Nat) (isOpen : (s.ctx slot).state ≠ .closed) :
    Works s (pace slot count arrival s).state := by
  have marked : Works s (s.setCtx slot { s.ctx slot with marks := bump (s.ctx slot).marks }) := by
    refine setCtx_works (retuned_of_open isOpen (fun h => ?_) rfl rfl rfl)
    rw [ctxCounters_iff] at h ⊢
    simp_all [bump_le]
  unfold pace
  dsimp only
  split
  · refine marked.trans (Works.trans ?_ (anchoredPace_works ..))
    exact setCtx_works (retuned_of_open (by simpa using isOpen) id rfl rfl rfl)
  · split
    · exact marked.trans (anchoredPace_works ..)
    · exact marked.trans (cadencePace_works _ _ _ (by simpa using isOpen))

/-! ### Silence (R117) -/

theorem expireSilence_works (slot : Fin 128) (s : State) : Works s (expireSilence slot s) := by
  unfold expireSilence
  dsimp only
  split
  · next due =>
    refine Works.trans ?_ (raise_works _ _ (by simp))
    refine setCtx_works (retuned_of_open (fun closed => ?_) id rfl rfl rfl)
    simp [Context.silenceDue, Context.counting, Context.isOpen, closed] at due
  · exact .refl s

theorem frameSilence_works (s : State) : Works s (frameSilence s) := by
  refine retuned_works fun i => ?_
  have counted : (s.contexts.map Context.countSilence)[i] = (s.ctx i).countSilence := by simp [State.ctx]
  rw [counted, countSilence_eq]
  split
  · exact ⟨id, id, rfl, fun _ _ => id, fun _ _ => id⟩
  · exact .refl _

/-! ### The Stamping Unit (R81) -/

theorem clapMark_scene (w : Cell) (slot : Fin 128) (x : Stamp) (arrival : Nat) :
    (clapMark w slot x arrival).scene.length ≤ 6 := by
  simp [clapMark, field]

theorem handleOpen_works {slot : Fin 128} {s : State} (w : Cell) (arrival : Nat)
    (isOpen : (s.ctx slot).state ≠ .closed) (run : s.mgmt.device = .running) :
    Works s (handleOpen w slot arrival s).state := by
  unfold handleOpen
  dsimp only
  split
  · exact pace_works _ _ isOpen
  · split
    · exact handleClap_works run (clapMark_scene ..)
    · exact handleTransient_works _ _ _ run

theorem autoOpens_valid {s : State} {slot : Fin 128} {e : SourceEntry} (h : autoOpens s slot = some e) :
    validSource s slot = some e := by
  unfold autoOpens at h
  split at h
  · next found =>
    split at h
    · rw [found, ← h]
    · contradiction
  · contradiction

theorem handleMapped_works {s : State} (w : Cell) (slot : Fin 128) (arrival : Nat) (run : s.mgmt.device = .running) :
    Works s (handleMapped w slot arrival s).state := by
  unfold handleMapped
  split
  · next isOpen => exact handleOpen_works _ _ ((isOpen_iff _).1 isOpen) run
  · split
    · next e opens =>
      exact (openContext_works (autoOpens_valid opens) run).trans
        (handleOpen_works _ _ (by simp [openContext, openedContext]) run)
    · exact .refl s

/-! ### Checks of the Table Store (R58 to R64) -/

theorem setMap_mapAt (s : State) (i j : Fin 256) (e : Option (Stored MapEntry)) :
    (s.setMap i e).mapAt j = if i = j then e else s.mapAt j := by
  by_cases h : i = j
  · subst h; simp [State.mapAt, State.setMap]
  · have : (i : Nat) ≠ j := fun e => h (Fin.ext e)
    simp [State.mapAt, State.setMap, this, h]

theorem setSource_sourceAt (s : State) (i j : Fin 128) (e : Option (Stored SourceEntry)) :
    (s.setSource i e).sourceAt j = if i = j then e else s.sourceAt j := by
  by_cases h : i = j
  · subst h; simp [State.sourceAt, State.setSource]
  · have : (i : Nat) ≠ j := fun e => h (Fin.ext e)
    simp [State.sourceAt, State.setSource, this, h]

theorem setGroup_group (s : State) (i j : Fin 16) (e : Option (Stored GroupEntry)) :
    (s.setGroup i e).tables.group[j] = if i = j then e else s.tables.group[j] := by
  by_cases h : i = j
  · subst h; simp [State.setGroup]
  · have : (i : Nat) ≠ j := fun e => h (Fin.ext e)
    simp [State.setGroup, this, h]

/-- A Stream Map position written so that keys and slots stay unique (R46). -/
theorem setMap_works {s : State} {i : Fin 256} {e : Option (Stored MapEntry)}
    (unique : MapUnique s → MapUnique (s.setMap i e)) : Works s (s.setMap i e) :=
  { Works.refl s with map := unique }

/-- A Stream Map entry whose key and slot stay: damaged, or its check altered (R44, R61). -/
theorem setMap_same_content {s : State} {i : Fin 256} {e f : Stored MapEntry} (at_i : s.mapAt i = some e)
    (content : f.content = e.content) : Works s (s.setMap i (some f)) := by
  refine setMap_works fun ⟨sets, apart⟩ => ?_
  have back (j : Fin 256) (g : Stored MapEntry) (h : (s.setMap i (some f)).mapAt j = some g) :
      ∃ g', s.mapAt j = some g' ∧ g.content = g'.content := by
    rw [setMap_mapAt] at h
    split at h
    · next same => exact ⟨e, same ▸ at_i, by rw [← Option.some.inj h]; exact content⟩
    · exact ⟨g, h, rfl⟩
  refine ⟨fun j g h => ?_, fun j k g g' hj hk ne => ?_⟩
  · obtain ⟨g0, old, eq⟩ := back j g h
    rw [eq]
    exact sets j g0 old
  · obtain ⟨g0, old, eq⟩ := back j g hj
    obtain ⟨g1, old', eq'⟩ := back k g' hk
    rw [eq, eq']
    exact apart j k g0 g1 old old' ne

theorem setSource_works {s : State} {i : Fin 128} {e : Option (Stored SourceEntry)}
    (range : EntriesInRange s → ∀ x, e = some x → x.content.InRange) : Works s (s.setSource i e) :=
  { Works.refl s with
    entries := fun h => by
      obtain ⟨source, group, work, limits⟩ := id h
      refine ⟨fun j x hx => ?_, group, work, limits⟩
      rw [setSource_sourceAt] at hx
      split at hx
      · exact range h x hx
      · exact source j x hx }

theorem setGroup_works {s : State} {i : Fin 16} {e : Option (Stored GroupEntry)}
    (range : EntriesInRange s → ∀ x, e = some x → x.content.InRange) : Works s (s.setGroup i e) :=
  { Works.refl s with
    entries := fun h => by
      obtain ⟨source, group, work, limits⟩ := id h
      refine ⟨source, fun j x hx => ?_, work, limits⟩
      rw [setGroup_group] at hx
      split at hx
      · exact range h x hx
      · exact group j x hx }

/-- A source entry whose contents stay (R44, R61). -/
theorem setSource_same_content {s : State} {i : Fin 128} {e f : Stored SourceEntry} (at_i : s.sourceAt i = some e)
    (content : f.content = e.content) : Works s (s.setSource i (some f)) :=
  setSource_works fun h x hx => by
    rw [← Option.some.inj hx, content]
    exact h.1 i e at_i

/-- A group entry whose contents stay (R44, R61). -/
theorem setGroup_same_content {s : State} {i : Fin 16} {e f : Stored GroupEntry} (at_i : s.tables.group[i] = some e)
    (content : f.content = e.content) : Works s (s.setGroup i (some f)) :=
  setGroup_works fun h x hx => by
    rw [← Option.some.inj hx, content]
    exact h.2.1 i e at_i

theorem raiseDamage_works (table index : Nat) (s : State) : Works s (raiseDamage table index s) :=
  raise_works _ s (by simp)

theorem sourceDamaged_works (slot : Fin 128) (s : State) : Works s (sourceDamaged slot s) := by
  unfold sourceDamaged
  dsimp only
  split
  · split
    · exact setCtx_works ⟨id, id, rfl, fun _ _ => id, fun _ _ => id⟩
    · exact closeContext_works ..
  · exact .refl s

theorem checkMap_works (i : Fin 256) (s : State) : Works s (checkMap i s) := by
  unfold checkMap
  split
  · next found =>
    refine Works.ite (fun _ => Works.trans ?_ (raiseDamage_works ..)) fun _ => .refl s
    exact setMap_same_content found rfl
  · exact .refl s

theorem checkSource_works (i : Fin 128) (s : State) : Works s (checkSource i s) := by
  unfold checkSource
  split
  · next found =>
    refine Works.ite (fun _ => Works.trans ?_ (sourceDamaged_works ..)) fun _ => .refl s
    refine Works.trans ?_ (raiseDamage_works ..)
    exact setSource_same_content found rfl
  · exact .refl s

theorem checkGroup_works (i : Fin 16) (s : State) : Works s (checkGroup i s) := by
  unfold checkGroup
  split
  · next found =>
    refine Works.ite (fun _ => Works.trans ?_ (groupDamaged_works ..)) fun _ => .refl s
    refine Works.trans ?_ (raiseDamage_works ..)
    exact setGroup_same_content found rfl
  · exact .refl s

theorem checkPosition_works (n : Nat) (s : State) : Works s (checkPosition n s) := by
  unfold checkPosition
  split
  · exact checkMap_works ..
  · split
    · exact checkSource_works ..
    · split
      · exact checkGroup_works ..
      · exact .refl s

theorem scrubOne_works (s : State) : Works s (scrubOne s) := by
  have checked := checkPosition_works s.tables.scrubPos s
  exact { checked with scrubPos := fun _ => Nat.mod_lt _ (by decide) }

theorem scrub_works (n : Nat) (s : State) : Works s (scrub n s) := by
  induction n generalizing s with
  | zero => exact .refl s
  | succ n ih => exact (scrubOne_works s).trans (ih _)

theorem setWalk_works (w : WalkState) (s : State) : Works s (s.setWalk w) := { Works.refl s with }

theorem walkCheck_works (s : State) : Works s (walkCheck s) := by
  unfold walkCheck
  split
  · exact Works.ite (fun _ => (checkPosition_works _ s).trans (setWalk_works _ _)) fun _ => .refl s
  · exact .refl s
  · exact .refl s

theorem walkChecks_works (n : Nat) (s : State) : Works s (walkChecks n s) := by
  induction n generalizing s with
  | zero => exact .refl s
  | succ n ih => exact (walkCheck_works s).trans (ih _)

theorem walkEnd_works (s : State) : Works s (walkEnd s) := by
  unfold walkEnd
  split
  · exact (walkChecks_works _ s).trans (setWalk_works _ _)
  · exact .refl s
  · exact .refl s

theorem walkTick_works (s : State) : Works s (walkTick s) := by
  unfold walkTick
  split
  · exact Works.ite (fun _ => walkCheck_works s) fun _ => walkEnd_works s
  · exact .refl s
  · exact .refl s

/-! ### Ticks and tick lines (R18 to R22) -/

theorem setLines_works (l : TickLines) (s : State) : Works s { s with lines := l } := { Works.refl s with }

theorem setTick_works (x : TickGen) (s : State) : Works s { s with tick := x } := { Works.refl s with }

theorem frameLines_works (s : State) : Works s (frameLines s) :=
  Works.ite (fun _ => setLines_works _ s) fun _ => .refl s

theorem restartLines_works (s : State) : Works s (restartLines s) := setLines_works _ s

theorem toggleB_works (s : State) : Works s (toggleB s) :=
  Works.ite (fun _ => setLines_works _ s) fun _ => .refl s

theorem toggleA_works (s : State) : Works s (toggleA s) :=
  Works.ite (fun _ => (toggleB_works s).trans (setLines_works _ _)) fun _ => .refl s

theorem makeTick_works (s : State) : Works s (makeTick s) := by
  unfold makeTick
  split
  · exact (setTick_works _ s).trans ((joinTick_works ..).trans (joinTick_works ..))
  · exact .refl s

theorem frameTick_works (s : State) : Works s (frameTick s) :=
  Works.ite (fun _ => .refl s) fun _ => setTick_works _ s

/-! ### What falls due, and the passing of cycles (R2, R15) -/

theorem expireTransients_works (n : Nat) (s : State) : Works s (expireTransients n s) := by
  induction n generalizing s with
  | zero => exact .refl s
  | succ n ih =>
    unfold expireTransients
    split
    · exact (expireTransient_works _ s).trans (ih _)
    · exact .refl s

theorem settle_works (s : State) : Works s (settle s) := by
  unfold settle
  refine Works.trans ?_ ((makeTick_works _).trans ((toggleA_works _).trans (toggleB_works _)))
  refine Works.trans ?_ (expireTransients_works ..)
  refine Works.trans ?_ (Works.foldl _ (fun t n => endClap_works n t) _ _)
  exact Works.foldl _ (fun t i => expireSilence_works i t) _ _

/-- The Reference Monitor changed, its noise count in range. -/
theorem setMonitor_works {s : State} {m : RefMonitor}
    (noise : s.monitor.noise ≤ Config.maxCounter → m.noise ≤ Config.maxCounter) :
    Works s { s with monitor := m } := { Works.refl s with noise := noise }

theorem loseReference_works {s : State} (cause : Byte) (external : s.clock.state ≠ .free) :
    Works s (loseReference cause s) := by
  have lost : Works s { s with clock := { s.clock with state := .holdover }, monitor := heldOver s.monitor } :=
    { Works.refl s with free := fun h => ⟨fun no => by contradiction, fun internal => absurd (h.2 internal) external⟩ }
  exact lost.trans (raise_works _ _ (by simp))

theorem expireMissing_works (s : State) : Works s (expireMissing s) := by
  have stopped : Works s { s with monitor := { s.monitor with missing := false } } := setMonitor_works id
  unfold expireMissing
  dsimp only
  split
  · next locked => exact stopped.trans (loseReference_works 0 (by simp [locked]))
  · exact stopped.trans (setMonitor_works id)
  · exact stopped.trans (setMonitor_works id)
  · exact stopped

theorem passCycles_works (n : Nat) (s : State) : Works s (passCycles n s) := by
  unfold passCycles
  have ended : Works s (if walkOutlasts n s then walkEnd s else s) :=
    Works.ite (fun _ => walkEnd_works s) fun _ => .refl s
  have expired (t : State) : Works t (if missingWithin n t then expireMissing t else t) :=
    Works.ite (fun _ => expireMissing_works t) fun _ => .refl t
  exact { ended.trans (expired _) with }

theorem framePaced_works (s : State) : Works s (framePaced s) := by
  unfold framePaced
  refine Works.trans (Works.ite (fun _ => ?_) fun _ => .refl s) (frameLines_works _)
  exact (scrub_works _ s).trans ((frameSilence_works _).trans (frameTick_works _))

end Sys2Proof.Proofs
end

section
/-! PROOFS. What requests keep: their reception, their handling, their acts and their replies. -/

namespace Sys2Proof.Proofs

open Sys2Proof.Machine Sys2Proof.Laws

/-! ### Reception and sending (R39, R130, R173) -/

theorem handToLocate_works (r : Request) (s : State) : Works s (handToLocate r s) := by
  have join : Works s (if s.locate.queue.length < Config.locateCapacity
      then { s with locate := { s.locate with queue := s.locate.queue ++ [r] } } else replyNow r .busy [] s) :=
    Works.ite (fun room => { Works.refl s with queue := fun _ => by simpa using room }) fun _ => joinReply_works ..
  unfold handToLocate
  split
  · exact join
  · exact join
  · exact joinReply_works ..
  · exact joinReply_works ..
  · exact joinReply_works ..

theorem handToMgmt_works (r : Request) (s : State) : Works s (handToMgmt r s) := by
  unfold handToMgmt
  refine Works.ite (fun room => ?_) fun _ => Works.ite (fun _ => .refl s) fun _ => joinReply_works ..
  exact { Works.refl s with inbox := fun _ => by simpa using room }

theorem handOver_works (port : Port) (w : Cell) (s : State) : Works s (handOver port w s) := by
  unfold handOver
  refine Works.ite (fun _ => .refl s) fun _ => ?_
  exact Works.ite (fun _ => handToLocate_works _ s) fun _ => handToMgmt_works _ s

theorem startSending_works (port : Port) (s : State) : Works s (startSending port s) := by
  unfold startSending
  dsimp only
  split
  · next queue _ =>
    refine Works.ite (fun _ => .refl s) fun _ => setPort_works (fun ⟨length, rest⟩ => ⟨?_, rest⟩) rfl
    rw [queue] at length
    exact (Nat.le_succ _).trans length
  · exact .refl s
  · exact .refl s

/-! ### The Run Parameter record (R182 to R184) -/

theorem captureClock_works (s : State) : Works s (captureClock s) := by
  refine { Works.refl s with noise := fun h => ?_, free := fun h => ?_ }
  · unfold captureClock
    dsimp only
    split <;> exact h
  · change capturedState s.clock.params (clockInUse s) s.clock.state = .free ↔ (clockInUse s).externalRef = false
    unfold capturedState captureRestarts
    cases (clockInUse s).externalRef <;> simp
    split <;> simp_all [FreeExactlyInternal]

theorem captureRun_works (s : State) : Works s (captureRun s) := { Works.refl s with }

/-- A field stored changes the record and the tick lines alone (R21, R182). -/
theorem storeField_touches (x : Nat × Nat) (s : State) :
    ∃ record lines, storeField x s = { s with paramRecord := record, lines := lines } := by
  unfold storeField
  split
  · exact ⟨_, _, rfl⟩
  · exact ⟨_, _, rfl⟩

theorem storeFields_touch (xs : List (Nat × Nat)) (s : State) :
    ∃ record lines, xs.foldl (fun s x => storeField x s) s = { s with paramRecord := record, lines := lines } := by
  induction xs generalizing s with
  | nil => exact ⟨_, _, rfl⟩
  | cons x xs ih =>
    obtain ⟨record, lines, stored⟩ := storeField_touches x s
    obtain ⟨record', lines', rest⟩ := ih (storeField x s)
    exact ⟨record', lines', by rw [List.foldl_cons, rest, stored]⟩

theorem writeFields_works (xs : List (Nat × Nat)) (s : State) : Works s (writeFields xs s) := by
  obtain ⟨record, lines, stored⟩ := storeFields_touch xs s
  unfold writeFields
  dsimp only
  rw [stored]
  refine Works.trans ?_ (raiseDefaulted_works ..)
  exact { Works.refl s with events := fun ⟨sound, _⟩ => ⟨sound, rfl⟩ }

/-! ### Events cleared (R191) -/

/-- Places of a vector written one after the other. -/
theorem foldl_set_get {α : Type} {n : Nat} (f : Fin n → α) (l : List (Fin n)) (v : Vector α n) (j : Fin n) :
    (l.foldl (fun v i => v.set i (f i)) v)[j] = if j ∈ l then f j else v[j] := by
  induction l generalizing v with
  | nil => simp
  | cons i l ih =>
    rw [List.foldl_cons, ih]
    by_cases later : j ∈ l
    · simp [later]
    · by_cases here : i = j
      · subst here; simp [later]
      · have : (i : Nat) ≠ j := fun e => here (Fin.ext e)
        simp [later, Ne.symm here, this]

theorem clearClasses_events (set : Nat) (s : State) (i : Fin 18) :
    (clearClasses set s).events[i] = clearClass set i s.events[i] := by
  have all : (clearClasses set s).events =
      (List.finRange 18).foldl (fun v i => v.set i (clearClass set i s.events[i])) s.events := rfl
  rw [all, foldl_set_get (fun i => clearClass set i s.events[i])]
  exact if_pos (List.mem_finRange i)

theorem cleared_sound : EventState.Sound {} := by simp [EventState.Sound]

/-- The events replaced by sound ones, and the alarm line evaluated anew (R193). -/
theorem evalFault_works {s : State} {v : Vector EventState 18} (sound : EventsSound s → ∀ i : Fin 18, v[i].Sound) :
    Works s (State.evalFault { s with events := v }) :=
  { Works.refl s with events := fun ⟨old, _⟩ => ⟨sound old, rfl⟩ }

theorem clearClasses_works (set : Nat) (s : State) : Works s (clearClasses set s) := by
  refine evalFault_works fun sound i => ?_
  have cleared := clearClasses_events set s i
  unfold clearClasses State.evalFault at cleared
  rw [cleared, clearClass]
  split
  · exact cleared_sound
  · exact sound i

/-! ### The Stream Map (R46 to R49) -/

theorem mem_mapPositions (k : Key) (i : Fin 256) : i ∈ mapPositions k ↔ (i : Nat) / 4 = mapSet k := by
  simp only [mapPositions, List.mem_cons, List.not_mem_nil, or_false, mapPosition, Fin.ext_iff]
  simp
  omega

theorem keyPosition_some {s : State} {k : Key} {i : Fin 256} (h : s.keyPosition k = some i) :
    (i : Nat) / 4 = mapSet k ∧ ∃ e, s.mapAt i = some e ∧ e.content.key = k := by
  unfold State.keyPosition at h
  refine ⟨(mem_mapPositions k i).1 (List.mem_of_find?_eq_some h), ?_⟩
  have found := List.find?_some h
  split at found
  · next e at_i => exact ⟨e, at_i, by simpa using found⟩
  · contradiction

theorem keyPosition_none {s : State} {k : Key} {i : Fin 256} {e : Stored MapEntry} (h : s.keyPosition k = none)
    (own : (i : Nat) / 4 = mapSet k) (at_i : s.mapAt i = some e) : e.content.key ≠ k := by
  unfold State.keyPosition at h
  have none := List.find?_eq_none.1 h i ((mem_mapPositions k i).2 own)
  simpa [at_i] using none

theorem freePosition_some {s : State} {k : Key} {i : Fin 256} (h : s.freePosition k = some i) :
    (i : Nat) / 4 = mapSet k ∧ s.mapAt i = none := by
  unfold State.freePosition at h
  exact ⟨(mem_mapPositions k i).1 (List.mem_of_find?_eq_some h), by simpa using List.find?_some h⟩

theorem slotTaken_false {s : State} {k : Key} {slot : Fin 128} {j : Fin 256} {e : Stored MapEntry}
    (h : s.slotTaken k slot = false) (at_j : s.mapAt j = some e) (same : e.content.slot = slot) :
    e.content.key = k := by
  simp only [State.slotTaken, List.any_eq_false] at h
  simpa [at_j, same] using h j (List.mem_finRange j)

/-- An entry written at a position of its key's set, where no other position holds its key and none of another key
names its slot (R48). -/
theorem mapUnique_write {s : State} {k : Key} {slot : Fin 128} {i : Fin 256} (unique : MapUnique s)
    (own : (i : Nat) / 4 = mapSet k)
    (alone : ∀ j e, s.mapAt j = some e → e.content.key = k → j = i)
    (free : s.slotTaken k slot = false) : MapUnique (s.setMap i (fresh ⟨k, slot⟩)) := by
  obtain ⟨sets, apart⟩ := unique
  have other (j : Fin 256) (e : Stored MapEntry) (ne : i ≠ j) (at_j : s.mapAt j = some e) :
      e.content.key ≠ k ∧ e.content.slot ≠ slot := by
    have key : e.content.key ≠ k := fun same => ne (alone j e at_j same).symm
    exact ⟨key, fun same => key (slotTaken_false free at_j same)⟩
  constructor
  · intro j e hj
    rw [setMap_mapAt] at hj
    split at hj
    · next same => rw [← same, ← Option.some.inj hj]; exact own
    · exact sets j e hj
  · intro j l e f hj hl ne
    rw [setMap_mapAt] at hj hl
    split at hj <;> split at hl
    · next a b => exact absurd (a.symm.trans b) ne
    · next b =>
      obtain ⟨key, slot'⟩ := other l f b hl
      rw [← Option.some.inj hj]
      exact ⟨key.symm, slot'.symm⟩
    · next b _ =>
      rw [← Option.some.inj hl]
      exact other j e b hj
    · exact apart j l e f hj hl ne

theorem mapUnique_erase {s : State} {i : Fin 256} (unique : MapUnique s) : MapUnique (s.setMap i none) := by
  have back (j : Fin 256) (e : Stored MapEntry) (h : (s.setMap i none).mapAt j = some e) : s.mapAt j = some e := by
    rw [setMap_mapAt] at h
    split at h
    · contradiction
    · exact h
  exact ⟨fun j e h => unique.1 j e (back j e h), fun j l e f hj hl => unique.2 j l e f (back j e hj) (back l f hl)⟩

/-- What a MAP can do: nothing, or write the entry at the key's own position or a free one of its set (R48). -/
theorem actMap_cases (r : Request) (s : State) : (actMap r s).after = s ∨
    ∃ k slot i, s.slotTaken k slot = false ∧ (actMap r s).after = s.setMap i (fresh ⟨k, slot⟩) ∧
      (s.keyPosition k = some i ∨ s.keyPosition k = none ∧ s.freePosition k = some i) := by
  unfold actMap
  split
  · next k slot _ _ =>
    split
    · next i found =>
      unfold remapKey
      extract_lets live
      split
      · exact .inl rfl
      · split
        · exact .inl rfl
        · next free => exact .inr ⟨k, slot, i, by simpa using free, rfl, .inl found⟩
    · next absent =>
      unfold mapNewKey
      split
      · exact .inl rfl
      · split
        · exact .inl rfl
        · next i place =>
          split
          · exact .inl rfl
          · next free => exact .inr ⟨k, slot, i, by simpa using free, rfl, .inr ⟨absent, place⟩⟩
  · exact .inl rfl

theorem actMap_works (r : Request) (s : State) : Works s (actMap r s).after := by
  obtain same | ⟨k, slot, i, free, after, place⟩ := actMap_cases r s
  · rw [same]; exact .refl s
  · rw [after]
    refine setMap_works fun unique => ?_
    obtain found | ⟨absent, place⟩ := place
    · obtain ⟨own, e, at_i, key⟩ := keyPosition_some found
      refine mapUnique_write unique own (fun j f at_j same => ?_) free
      by_contra ne
      exact (unique.2 j i f e at_j at_i ne).1 (same.trans key.symm)
    · obtain ⟨own, _⟩ := freePosition_some place
      refine mapUnique_write unique own (fun j f at_j same => ?_) free
      exact absurd same (keyPosition_none absent ((unique.1 j f at_j).trans (congrArg mapSet same)) at_j)

theorem actUnmap_works (r : Request) (s : State) : Works s (actUnmap r s).after := by
  unfold actUnmap withMapEntry
  split
  · exact .refl s
  · split
    · exact .refl s
    · split
      · exact .refl s
      · dsimp only
        split
        · exact .refl s
        · exact setMap_works mapUnique_erase

/-! ### Table writes (R51 to R56, R61) -/

theorem clampTo_bounds {lo hi : Nat} (n : Nat) (h : lo ≤ hi) : lo ≤ clampTo lo hi n ∧ clampTo lo hi n ≤ hi := by
  unfold clampTo
  omega

theorem tagChar_bounds (b : Byte) : 32 ≤ (tagChar b).toNat ∧ (tagChar b).toNat ≤ 126 := by
  unfold tagChar
  split
  · assumption
  · decide

/-- A clamped entry whose structural fields are good lies in its ranges (R51, R52). -/
theorem clampedSource_inRange {r : Request} (long : 9 ≤ r.args.length) (good : structuralGood r = true) :
    (clampedSource r.source).InRange := by
  simp only [structuralGood, Bool.and_eq_true, decide_eq_true_eq] at good
  obtain ⟨⟨⟨⟨_, rn1, rn2⟩, rd⟩, stride1, stride2⟩, group⟩ := good
  have lock := clampTo_bounds r.source.lockTol (show 1 ≤ 1000 by decide)
  have slip := clampTo_bounds r.source.slipTol (show clampTo 1 1000 r.source.lockTol + 1 ≤ 100000 by omega)
  refine ⟨fun b hb => ?_, ?_, rn1, rn2, rd, stride1, stride2, Nat.min_le_right _ _,
    (clampTo_bounds _ (by decide)).1, (clampTo_bounds _ (by decide)).2, (clampTo_bounds _ (by decide)).1,
    (clampTo_bounds _ (by decide)).2, (clampTo_bounds _ (by decide)).1, (clampTo_bounds _ (by decide)).2,
    Nat.min_le_right _ _, lock.1, lock.2, slip.1, slip.2, Nat.min_le_right _ _, clampTrim_abs .., Nat.min_le_right _ _,
    group⟩
  · obtain ⟨c, _, rfl⟩ := List.mem_map.1 hb
    exact tagChar_bounds c
  · simp only [clampedSource, Request.source, List.length_map, field, List.length_take, List.length_drop]
    omega

theorem clampedGroup_inRange (w : GroupEntry) : (clampedGroup w).InRange :=
  ⟨(clampTo_bounds _ (by decide)).1, (clampTo_bounds _ (by decide)).2, (clampTo_bounds _ (by decide)).1,
    (clampTo_bounds _ (by decide)).2, Nat.min_le_right _ _, Nat.min_le_right _ _⟩

theorem writeVerdict_after (w : Nat) (changed : List Nat) (s : State) : (writeVerdict w changed s).after = s := by
  unfold writeVerdict
  split <;> rfl

theorem actWriteSource_works {r : Request} (s : State) (long : 9 ≤ r.args.length) :
    Works s (actWriteSource r s).after := by
  unfold actWriteSource
  split
  · exact .refl s
  · split
    · exact .refl s
    · split
      · next good =>
        dsimp only
        rw [writeVerdict_after]
        refine setSource_works fun _ x hx => ?_
        rw [← Option.some.inj hx]
        exact clampedSource_inRange long good
      · exact .refl s

theorem actWriteGroup_works (r : Request) (s : State) : Works s (actWriteGroup r s).after := by
  unfold actWriteGroup
  split
  · exact .refl s
  · split
    · exact .refl s
    · split
      · dsimp only
        rw [writeVerdict_after]
        refine setGroup_works fun _ x hx => ?_
        rw [← Option.some.inj hx]
        exact clampedGroup_inRange _
      · exact .refl s

theorem actInject_works (r : Request) (s : State) : Works s (actInject r s).after := by
  unfold actInject injectInto
  dsimp only
  split
  · split
    · split
      · exact .refl s
      · next found => exact setMap_same_content found rfl
    · exact .refl s
  · split
    · split
      · exact .refl s
      · next found => exact setSource_same_content found rfl
    · exact .refl s
  · split
    · split
      · exact .refl s
      · next found => exact setGroup_same_content found rfl
    · exact .refl s
  · exact .refl s

/-! ### The other acts -/

theorem actSaveAddress_works (r : Request) (s : State) : Works s (actSaveAddress r s).after := { Works.refl s with }

theorem actWriteParams_works (r : Request) (s : State) : Works s (actWriteParams r s).after := by
  unfold actWriteParams
  dsimp only
  split
  · exact writeFields_works ..
  · exact .refl s

theorem actClockApply_works (r : Request) (s : State) : Works s (actClockApply r s).after :=
  (captureClock_works s).trans (raiseDefaulted_works ..)

theorem actOpen_works {r : Request} {s : State} (run : s.mgmt.device = .running) : Works s (actOpen r s).after := by
  unfold actOpen
  split
  · exact .refl s
  · split
    · exact .refl s
    · split
      · exact .refl s
      · next found => exact openContext_works found run

theorem actClose_works (r : Request) (s : State) : Works s (actClose r s).after := by
  unfold actClose
  split
  · exact .refl s
  · split
    · exact closeContext_works ..
    · exact .refl s

theorem actReopen_works {r : Request} {s : State} (run : s.mgmt.device = .running) :
    Works s (actReopen r s).after := by
  unfold actReopen
  split
  · exact .refl s
  · next i _ =>
    split
    · exact .refl s
    · next e found =>
      have closed : Works s (if (s.ctx i).isOpen then closeContext i s else s) :=
        Works.ite (fun _ => closeContext_works i s) fun _ => .refl s
      refine closed.trans (openContext_works ?_ (closed.device.trans run))
      have tables : (if (s.ctx i).isOpen then closeContext i s else s).tables = s.tables := by
        split <;> simp
      unfold validSource State.sourceAt at found ⊢
      rwa [tables]

theorem actClearEvents_works (r : Request) (s : State) : Works s (actClearEvents r s).after := by
  unfold actClearEvents
  split
  · exact .refl s
  · exact clearClasses_works ..

theorem actReadSource_after (r : Request) (s : State) : (actReadSource r s).after = s := by
  unfold actReadSource
  split
  · rfl
  · split <;> rfl

theorem actReadGroup_after (r : Request) (s : State) : (actReadGroup r s).after = s := by
  unfold actReadGroup
  split
  · rfl
  · split <;> rfl

theorem actReadMap_after (r : Request) (s : State) : (actReadMap r s).after = s := by
  unfold actReadMap withMapEntry
  split
  · rfl
  · split
    · rfl
    · split <;> rfl

theorem actReadContext_after (r : Request) (s : State) : (actReadContext r s).after = s := by
  unfold actReadContext
  split <;> rfl

theorem actReadEvents_after (r : Request) (s : State) : (actReadEvents r s).after = s := by
  unfold actReadEvents
  split <;> rfl

/-! ### Handling and service (R131, R173) -/

theorem setHandling_works (a : Option (List (List Byte))) (s : State) :
    Works s { s with mgmt := { s.mgmt with handling := a } } := { Works.refl s with }

theorem popInbox_works {s : State} {r : Request} {rest : List Request} (inbox : s.mgmt.inbox = r :: rest)
    (a : Option (List (List Byte))) : Works s { s with mgmt := { s.mgmt with inbox := rest, handling := a } } :=
  { Works.refl s with inbox := fun h => (Nat.le_succ _).trans (by rwa [inbox] at h) }

/-- A handling's beginning keeps what its act keeps of a long enough request in a state that serves it. -/
theorem beginHandling_works {isKind : Nat → Bool} {served : DeviceState → Bool} {act : Request → State → Verdict}
    {s : State} (acts : ∀ r, isKind r.kind = true → argNeed r.kind ≤ r.args.length → served s.mgmt.device = true →
      Works s (act r s).after) : Works s (beginHandling isKind served act s) := by
  obtain same | ⟨r, rest, inbox, after⟩ | ⟨a, after⟩ | ⟨r, rest, a, _, _, kind, long, serves, after⟩ :=
    beginHandling_cases isKind served act s
  · rw [same]; exact .refl s
  · rw [after]; exact popInbox_works inbox _
  · rw [after]; exact setHandling_works _ s
  · rw [after]; exact (acts r kind long serves).trans (setHandling_works _ _)

theorem endHandling_works (s : State) : Works s (endHandling s) := by
  obtain same | after | ⟨r, rest, a, inbox, _, after⟩ := endHandling_cases s
  · rw [same]; exact .refl s
  · rw [after]; exact setHandling_works _ s
  · have replied := joinReplies_works r.port r.origin a s
    have popped := popInbox_works (s := joinReplies r.port r.origin a s) (by simpa using inbox) none
    rw [after]
    simpa using replied.trans popped

theorem handlingEnd_works (s : State) : Works s (handlingEnd s) :=
  Works.ite (fun _ => .refl s) fun _ => endHandling_works s

theorem bootWriteEnd_works (s : State) : Works s (bootWriteEnd s) := by
  unfold bootWriteEnd
  split
  · refine Works.trans ?_ (endHandling_works _)
    exact { Works.refl s with }
  · exact .refl s

theorem beginService_works (kind : Nat) (answer : Request → State → List (List Byte)) (s : State) :
    Works s (beginService kind answer s) := by
  obtain same | ⟨a, after⟩ := beginService_cases kind answer s
  · rw [same]; exact .refl s
  · rw [after]; exact { Works.refl s with }

theorem endService_works (s : State) : Works s (endService s) := by
  unfold endService
  split
  · next a r rest _ queue =>
    have replied := joinReplies_works r.port r.origin a s
    exact { replied with queue := fun h => (Nat.le_succ _).trans (by rwa [queue] at h) }
  · exact { Works.refl s with }
  · exact .refl s

theorem stopLocate_works (s : State) : Works s (stopLocate s) := by
  have replied : Works s (s.locate.queue.foldl (fun s r => replyNow r .stopped [] s) s) :=
    Works.foldl _ (fun t r => joinReply_works ..) _ _
  exact { replied with queue := fun _ => Nat.zero_le _ }

theorem beginLocate_works (s : State) : Works s (beginLocate s) := by
  unfold beginLocate
  split
  · exact .refl s
  · split <;> exact beginService_works ..

end Sys2Proof.Proofs
end

section
/-! PROOFS. What a step keeps beyond the part's inner work: the device state moves (RUN, HALT, CLEAR, FORGET,
SET_ADDRESS, the boot record read), the power-up values, and the cells that pass through. -/

namespace Sys2Proof.Proofs

open Sys2Proof.Machine Sys2Proof.Laws

/-- What every operation of a part alive keeps, device moves and passing cells among them. -/
structure Advances (s t : State) : Prop extends Keeps s t where
  powered : t.powered = s.powered
  resetLow : t.resetLow = s.resetLow
  time : PictureTimeInStep s → PictureTimeInStep t
  fits : AddressFitsState s → AddressFitsState t
  balance : CellsConserved s → CellsConserved t

theorem Advances.trans {s t u : State} (h : Advances s t) (g : Advances t u) : Advances s u :=
  { h.toKeeps.trans g.toKeeps with
    powered := g.powered.trans h.powered
    resetLow := g.resetLow.trans h.resetLow
    time := g.time ∘ h.time
    fits := g.fits ∘ h.fits
    balance := g.balance ∘ h.balance }

theorem Stays.time {s t : State} (h : Stays s t) (before : PictureTimeInStep s) : PictureTimeInStep t := by
  unfold PictureTimeInStep
  rw [h.pt, h.k, h.device, h.hold]
  exact before

theorem Stays.fits {s t : State} (h : Stays s t) (before : AddressFitsState s) : AddressFitsState t := by
  unfold AddressFitsState
  rw [h.device, h.address]
  exact before

theorem conservedAt_congr {x y x' y' : Counters} (hx : passed x' = passed x) (hy : passed y' = passed y)
    (h : ConservedAt x y) : ConservedAt x' y' := by
  simp only [passed, List.cons.injEq, and_true] at hx hy
  obtain ⟨arrived, damaged, consumed, _, _⟩ := hx
  obtain ⟨_, _, _, forwarded, overrun⟩ := hy
  unfold ConservedAt
  rw [arrived, damaged, consumed, forwarded, overrun]
  exact h

theorem Works.advances {s t : State} (h : Works s t) : Advances s t :=
  { h.toKeeps with
    powered := h.powered
    resetLow := h.resetLow
    time := h.time
    fits := h.fits
    balance := fun ⟨stage, post⟩ =>
      ⟨conservedAt_congr h.passedS h.passedP stage, conservedAt_congr h.passedP h.passedS post⟩ }

theorem Advances.refl (s : State) : Advances s s := (Works.refl s).advances

/-! ### Addresses and device states (R167, R171, R180) -/

theorem actSetAddress_advances {r : Request} {s : State} (rest : s.mgmt.device ≠ .running) :
    Advances s (actSetAddress r s).after := by
  unfold actSetAddress
  dsimp only
  split
  · next range =>
    exact { Advances.refl s with
      time := fun ⟨pt, k, _⟩ => ⟨pt, k, nofun, nofun⟩
      fits := fun _ => ⟨_, rfl, range⟩
      rests := fun h _ => h rest }
  · exact .refl s

theorem actForget_advances {r : Request} {s : State} (rest : s.mgmt.device ≠ .running) :
    Advances s (actForget r s).after := by
  have toggled := (toggleA_works s).trans (toggleB_works (toggleA s))
  have still : (toggleB (toggleA s)).mgmt.device ≠ .running := toggled.device ▸ rest
  refine toggled.advances.trans (Advances.trans ?_ (stopLocate_works _).advances)
  exact { Advances.refl (toggleB (toggleA s)) with
    time := fun ⟨pt, k, _⟩ => ⟨pt, k, nofun, nofun⟩
    fits := fun _ => rfl
    rests := fun h _ => h still }

/-! ### RUN and HALT (R176 to R178) -/

theorem emptyLog_inRange : LogInRange {} := by simp [LogInRange]

theorem emptyLog_numbered {s : State} (empty : s.log = {}) : LogNumbered s := by
  unfold LogNumbered
  rw [empty]
  decide

theorem emptyPairing_inRange {u : PairingUnit} (takes : u.takes = []) (claps : u.claps = []) (held : u.held = [])
    (next : u.nextTake = 1) : PairingInRange u := by
  simp [PairingInRange, takes, claps, held, next]

theorem enterStarting_advances {s : State} (configuring : s.mgmt.device = .configuring) :
    Advances s (enterStarting s) :=
  have started (i : Fin 128) : (enterStarting s).ctx i = startedContext (s.ctx i) := Vector.getElem_map ..
  { Advances.refl s with
    stage := id
    post := id
    scrubPos := fun _ => Nat.succ_pos 399
    log := fun _ => emptyLog_inRange
    numbered := fun _ => emptyLog_numbered rfl
    pairing := fun _ => emptyPairing_inRange rfl rfl rfl rfl
    counters := fun range i => started i ▸ range i
    entries := fun ⟨source, group, work, limits⟩ =>
      ⟨source, group, fun i => started i ▸ work i, fun i w => started i ▸ limits i w⟩
    rests := fun h _ => by
      obtain ⟨closed, -, -⟩ := h (by simp [configuring])
      exact ⟨fun i => started i ▸ closed i, rfl, rfl⟩
    time := fun ⟨_, k, _⟩ => ⟨Nat.zero_le _, k, fun _ => rfl, nofun⟩
    fits := fun h => by simpa [AddressFitsState, configuring, enterStarting] using h }

theorem actRun_advances {r : Request} {s : State} (configuring : s.mgmt.device = .configuring) :
    Advances s (actRun r s).after := by
  have stopped := stopLocate_works s
  have entered := enterStarting_advances (stopped.device.trans configuring)
  refine stopped.advances.trans (entered.trans ?_)
  have captured := (captureClock_works (enterStarting (stopLocate s))).trans (captureRun_works _)
  exact (captured.trans (raiseDefaulted_works _ _)).advances

theorem haltStarting_advances {s : State} (starting : s.mgmt.device = .starting) :
    Advances s (haltStarting s) :=
  { Advances.refl s with
    rests := fun h _ => h (by simp [starting])
    time := fun ⟨_, k, _⟩ => ⟨Nat.zero_le _, k, fun _ => rfl, nofun⟩
    fits := fun h => by simpa [AddressFitsState, starting, haltStarting, stopWalk, State.setWalk] using h }

/-- A close leaves the one context CLOSED and the others as they are (R105). -/
theorem closeContext_ctx (slot j : Fin 128) (s : State) :
    (closeContext slot s).ctx j = if slot = j then { s.ctx slot with state := .closed } else s.ctx j := by
  obtain ⟨order, _, closed⟩ := closeContext_eq slot s
  rw [closed]
  split
  · next same =>
    subst same
    have kept := (contextClosed_keeps s slot order).1
    simp only [State.ctx, Fin.getElem_fin] at kept ⊢
    simp [kept]
  · next other => exact contextClosed_ctx s slot j order (Ne.symm other)

theorem closes_closed (l : List (Fin 128)) (s : State) (j : Fin 128) (h : j ∈ l ∨ (s.ctx j).state = .closed) :
    ((l.foldl (fun u i => closeContext i u) s).ctx j).state = .closed := by
  induction l generalizing s with
  | nil => simpa using h
  | cons i l ih =>
    refine ih _ ?_
    rw [closeContext_ctx]
    by_cases same : i = j
    · simp [same]
    · simpa [same, Ne.symm same] using h

/-- After the closes of a HALT every context is CLOSED (R107). -/
theorem closeAll_closed (s : State) (j : Fin 128) : ((closeAll s).ctx j).state = .closed := by
  refine closes_closed _ _ j ?_
  by_cases closed : (s.ctx j).state = .closed
  · exact .inr closed
  · exact .inl ((inAnyOrder_perm _ _ _).mem_iff.2 (by simpa [openSlots, allSlots, isOpen_iff] using closed))

theorem endClaps_claps (ns : List Nat) (s : State) :
    (endClaps ns s).pairing.claps = s.pairing.claps.filter fun c => decide (c.take ∉ ns) := by
  have fold (l : List Nat) (u : State) : (l.foldl (fun s n => endClap n s) u).pairing.claps =
      u.pairing.claps.filter fun c => decide (c.take ∉ l) := by
    induction l generalizing u with
    | nil => simp
    | cons n l ih =>
      rw [List.foldl_cons, ih, endClap_claps, List.filter_filter]
      refine List.filter_congr fun c _ => ?_
      rw [Bool.eq_iff_iff]
      simp [and_comm]
  rw [endClaps, fold]
  exact List.filter_congr fun c _ => by simp [(inAnyOrder_perm _ _ _).mem_iff]

/-- The Pairing Unit at a HALT is left without a pending clap and a held transient (R164). -/
theorem pairingHalt_empty (s : State) : (pairingHalt s).pairing.claps = [] ∧ (pairingHalt s).pairing.held = [] := by
  refine ⟨?_, rfl⟩
  change (endClaps _ s).pairing.claps = []
  rw [endClaps_claps, List.filter_eq_nil_iff]
  intro c waits
  simpa using ⟨c, waits, rfl⟩

theorem pairingHalt_works (s : State) : Works s (pairingHalt s) :=
  (endClaps_works _ s).trans (setHeld_works (List.nil_sublist _))

theorem pairingHalt_contexts (s : State) : (pairingHalt s).contexts = s.contexts := by
  obtain ⟨order, _, ended⟩ := endClaps_eq (s.pairing.claps.map PendingClap.take) s
  change (endClaps _ s).contexts = s.contexts
  rw [ended]
  exact (foldl_clapEnded_keeps order _).1

theorem configured_advances {s : State} (running : s.mgmt.device = .running)
    (closed : ∀ j : Fin 128, (s.ctx j).state = .closed) (empty : s.pairing.claps = [] ∧ s.pairing.held = []) :
    Advances s { s with
      mgmt := { s.mgmt with device := .configuring }, clock := { s.clock with hold := 0 } } :=
  { Advances.refl s with
    rests := fun _ _ => ⟨closed, empty⟩
    time := fun ⟨pt, k, _⟩ => ⟨pt, k, nofun, nofun⟩
    fits := fun h => by simpa [AddressFitsState, running] using h }

theorem haltRunning_advances {s : State} (running : s.mgmt.device = .running) : Advances s (haltRunning s) := by
  have halted := ((makeTick_works s).trans (closeAll_works _)).trans (pairingHalt_works (closeAll (makeTick s)))
  refine halted.advances.trans (configured_advances (halted.device.trans running) (fun j => ?_) (pairingHalt_empty _))
  have closed := closeAll_closed (makeTick s) j
  unfold State.ctx at closed ⊢
  rw [pairingHalt_contexts]
  exact closed

theorem actHalt_advances {r : Request} {s : State} (serves : inStartingRunning s.mgmt.device = true) :
    Advances s (actHalt r s).after := by
  change Advances s (if s.mgmt.device = .starting then haltStarting s else haltRunning s)
  split
  · next starting => exact haltStarting_advances starting
  · next other =>
    refine haltRunning_advances ?_
    simpa [inStartingRunning, other] using serves

/-! ### Blocks at their reset values (R168, R179) -/

/-- Tables, contexts, Log, Locate Unit, Pairing Unit, events, Reference Monitor and alarm line as reset leaves
them. -/
structure Renewed (t : State) : Prop where
  tables : t.tables = {}
  contexts : t.contexts = Vector.replicate 128 {}
  log : t.log = {}
  locate : t.locate = {}
  pairing : t.pairing = {}
  events : t.events = Vector.replicate 18 {}
  monitor : t.monitor = {}
  faultn : t.faultn = false

theorem reset_renewed : Renewed State.reset := ⟨rfl, rfl, rfl, rfl, rfl, rfl, rfl, rfl⟩

theorem powerUpValues_renewed (s : State) : Renewed (powerUpValues s) := ⟨rfl, rfl, rfl, rfl, rfl, rfl, rfl, rfl⟩

theorem cleared_renewed (s : State) : Renewed (cleared s) := ⟨rfl, rfl, rfl, rfl, rfl, rfl, rfl, rfl⟩

section Renewed

variable {t : State} (h : Renewed t)
include h

theorem Renewed.ctx (i : Fin 128) : t.ctx i = {} := by simp [State.ctx, h.contexts]

theorem Renewed.event (i : Fin 18) : t.events[i] = {} := by simp [h.events]

theorem Renewed.mapAt (i : Fin 256) : t.mapAt i = none := by simp [State.mapAt, h.tables]

theorem Renewed.sourceAt (i : Fin 128) : t.sourceAt i = none := by simp [State.sourceAt, h.tables]

theorem Renewed.group (i : Fin 16) : t.tables.group[i] = none := by simp [h.tables]

theorem Renewed.countersInRange (i : Fin 128) : (t.ctx i).CountersInRange := by
  rw [h.ctx]
  simp [Context.CountersInRange]

theorem Renewed.eventsSound : EventsSound t := fun i => by
  rw [h.event]
  exact cleared_sound

theorem Renewed.alarmFollowsFlags : AlarmFollowsFlags t := by
  have calm : t.alarmRaised = false := by simp [State.alarmRaised, h.event]
  exact h.faultn.trans calm.symm

theorem Renewed.mapUnique : MapUnique t := by simp [MapUnique, h.mapAt]

theorem Renewed.entriesInRange : EntriesInRange t := by
  simp [EntriesInRange, h.sourceAt, h.group, h.ctx, Context.isOpen]

theorem Renewed.restsOutsideRun : RestsOutsideRun t := fun _ => by simp [h.ctx, h.pairing]

theorem Renewed.logInRange : LogInRange t.log := by rw [h.log]; exact emptyLog_inRange

theorem Renewed.pairingInRange : PairingInRange t.pairing := by
  rw [h.pairing]
  exact emptyPairing_inRange rfl rfl rfl rfl

theorem Renewed.keeps {s : State} (stage : PortInRange s.portS → PortInRange t.portS)
    (post : PortInRange s.portP → PortInRange t.portP)
    (inbox : s.mgmt.inbox.length ≤ Config.inboxCapacity → t.mgmt.inbox.length ≤ Config.inboxCapacity)
    (free : FreeExactlyInternal t) : Keeps s t where
  stage := stage
  post := post
  inbox := inbox
  queue := fun _ => by simp [h.locate]
  noise := fun _ => by simp [h.monitor]
  scrubPos := fun _ => by simp [h.tables]
  log := fun _ => h.logInRange
  numbered := fun _ => emptyLog_numbered h.log
  pairing := fun _ => h.pairingInRange
  counters := fun _ => h.countersInRange
  events := fun _ => ⟨h.eventsSound, h.alarmFollowsFlags⟩
  map := fun _ => h.mapUnique
  entries := fun _ => h.entriesInRange
  free := fun _ => free
  rests := fun _ => h.restsOutsideRun

end Renewed

theorem emptyCounters_inRange : Counters.InRange {} := by simp [Counters.InRange]

theorem emptyCounters_conserved : ConservedAt {} {} := fun _ => rfl

theorem cleared_advances {s : State} (serves : clearServed s.mgmt.device = true) : Advances s (cleared s) :=
  { (cleared_renewed s).keeps (s := s) (fun ⟨queue, _, sequence⟩ => ⟨queue, emptyCounters_inRange, sequence⟩)
      (fun ⟨queue, _, sequence⟩ => ⟨queue, emptyCounters_inRange, sequence⟩) id (iff_of_true rfl rfl) with
    powered := rfl
    resetLow := rfl
    time := fun ⟨_, k, _⟩ => ⟨Nat.zero_le _, k, fun _ => rfl, nofun⟩
    fits := fun h => by
      unfold AddressFitsState at h
      split at h
      · next boot => simp [boot, clearServed, inStartingRunning] at serves
      · next addressing => simp [addressing, clearServed, inStartingRunning] at serves
      all_goals exact h
    balance := fun _ => ⟨emptyCounters_conserved, emptyCounters_conserved⟩ }

theorem actClear_advances {r : Request} {s : State} (serves : clearServed s.mgmt.device = true) :
    Advances s (actClear r s).after := by
  have ticked : Works s (if s.mgmt.device = .running then makeTick s else s) :=
    Works.ite (fun _ => makeTick_works s) fun _ => .refl s
  have stopped := ticked.trans (stopLocate_works _)
  exact stopped.advances.trans (cleared_advances (by rw [stopped.device]; exact serves))

/-- The power-up values keep whatever a port held off or a cell still to come does not touch (R168, R170). -/
theorem powerUpValues_keeps (s : State) : Keeps s (powerUpValues s) :=
  have port (x : PortState) : PortInRange x → PortInRange (discardedPort x) := fun _ =>
    ⟨Nat.zero_le _, emptyCounters_inRange, Nat.succ_pos 255⟩
  (powerUpValues_renewed s).keeps (port _) (port _) (fun _ => Nat.zero_le _) (iff_of_true rfl rfl)

/-! ### The boot record read (R168) -/

theorem bootReadEnd_advances {s : State} (boot : s.mgmt.device = .boot) : Advances s (bootReadEnd s) := by
  have small : bootAddress s.boot ≤ 254 := by
    unfold bootAddress bootGood
    split
    · next good => simpa using (Bool.and_eq_true_iff.1 good).2
    · exact Nat.zero_le _
  have moved : Advances s { s with
      boot := { s.boot with reading := false, readGood := bootGood s.boot }
      mgmt := { s.mgmt with
        address := some (bootAddress s.boot)
        device := if bootAddress s.boot = 0 then .addressing else .configuring } } :=
    { Advances.refl s with
      rests := fun h _ => h (by simp [boot])
      time := fun ⟨pt, k, _⟩ => ⟨pt, k, by dsimp only; split <;> simp, by dsimp only; split <;> simp⟩
      fits := fun _ => by
        by_cases none : bootAddress s.boot = 0
        · simp [AddressFitsState, none]
        · simpa [AddressFitsState, none, small] using Nat.one_le_iff_ne_zero.2 none }
  unfold bootReadEnd
  dsimp only
  split
  · exact moved
  · exact moved.trans (raise_works _ _ (by simp)).advances

end Sys2Proof.Proofs
end

section
/-! PROOFS. Cells that pass through the part (R29 to R37, R43), and the passing of time (R2, R3, R13 to R17, R177). -/

namespace Sys2Proof.Proofs

open Sys2Proof.Machine Sys2Proof.Laws

/-! ### Cells that pass through (R43) -/

/-- One cell crosses to the other port: it is counted there, as forwarded out or as overrun, and in no counter else
of R43. -/
structure Crosses (p : Port) (s t : State) : Prop extends Keeps s t, Stays s t where
  own : passed (t.port p).counters = passed (s.port p).counters
  across : let y := (s.port (otherPort p)).counters
    passed (t.port (otherPort p)).counters = passed { y with forwardedOut := bump y.forwardedOut } ∨
    passed (t.port (otherPort p)).counters = passed { y with overrun := bump y.overrun }

theorem Works.passed {s t : State} (h : Works s t) (p : Port) :
    passed (t.port p).counters = passed (s.port p).counters := by
  cases p
  · exact h.passedS
  · exact h.passedP

theorem passed_forwarded {x y : Counters} (h : passed x = passed y) :
    passed { x with forwardedOut := bump x.forwardedOut } = passed { y with forwardedOut := bump y.forwardedOut } := by
  simp_all [passed]

theorem passed_overrun {x y : Counters} (h : passed x = passed y) :
    passed { x with overrun := bump x.overrun } = passed { y with overrun := bump y.overrun } := by
  simp_all [passed]

theorem Crosses.after {p : Port} {s t u : State} (h : Works s t) (g : Crosses p t u) : Crosses p s u :=
  { h.toKeeps.trans g.toKeeps, h.toStays.trans g.toStays with
    own := g.own.trans (h.passed p)
    across := g.across.imp (·.trans (passed_forwarded (h.passed _))) (·.trans (passed_overrun (h.passed _))) }

theorem countAt_keeps {s : State} {p : Port} {f : Counters → Counters} (range : ∀ c, c.InRange → (f c).InRange) :
    Keeps s (s.countAt p f) :=
  setPort_keeps fun ⟨queue, counters, sequence⟩ => ⟨queue, range _ counters, sequence⟩

theorem countAt_stays (s : State) (p : Port) (f : Counters → Counters) : Stays s (s.countAt p f) := setPort_stays ..

theorem pushCell_works {s : State} {p : Port} (c : Cell) (room : s.hasRoom p = true) : Works s (s.pushCell p c) := by
  have free : (s.port p).queue.length < Config.egressCapacity := of_decide_eq_true room
  exact setPort_works (fun ⟨_, rest⟩ => ⟨by simpa using free, rest⟩) rfl

theorem forwarded_inRange {c : Counters} (h : c.InRange) :
    ({ c with forwardedOut := bump c.forwardedOut } : Counters).InRange := by
  rw [counters_inRange_iff] at h ⊢
  simp_all [bump_le]

theorem overrun_inRange {c : Counters} (h : c.InRange) :
    ({ c with overrun := bump c.overrun } : Counters).InRange := by
  rw [counters_inRange_iff] at h ⊢
  simp_all [bump_le]

theorem forwardCell_crosses (p : Port) (w : Cell) (s : State) : Crosses p s (forwardCell p w s) := by
  unfold forwardCell joinForwarded
  split
  · next room =>
    refine Crosses.after (pushCell_works w room) { countAt_keeps (fun _ => forwarded_inRange), countAt_stays .. with
      own := ?_, across := .inl ?_ } <;> cases p <;> rfl
  · have counted : Crosses p s (s.countAt (otherPort p) fun x => { x with overrun := bump x.overrun }) :=
      { countAt_keeps (fun _ => overrun_inRange), countAt_stays .. with
        own := by cases p <;> rfl
        across := .inr (by cases p <;> rfl) }
    have raised := raise_works .egressDrop (d := dropDetail (otherPort p) 0)
      (s.countAt (otherPort p) fun x => { x with overrun := bump x.overrun }) (by simp [dropDetail])
    exact { counted.toKeeps.trans raised.toKeeps, counted.toStays.trans raised.toStays with
      own := (raised.passed p).trans counted.own
      across := counted.across.imp ((raised.passed _).trans ·) ((raised.passed _).trans ·) }

theorem emitStamped_crosses (p : Port) (w : Cell) (x : Stamp) (slot : Byte) (s : State) :
    Crosses p s (emitStamped p w x slot s) := forwardCell_crosses p _ s

theorem keyBytes_length (k : Key) : (keyBytes k).length = 2 := rfl

theorem stampMark_crosses {s : State} (p : Port) (w : Cell) (arrival : Nat) (run : s.mgmt.device = .running) :
    Crosses p s (stampMark p w arrival s) := by
  unfold stampMark
  dsimp only
  split
  · exact .after (raise_works _ _ (by simp [keyBytes_length])) (emitStamped_crosses ..)
  · exact .after (handleMapped_works w _ arrival run) (emitStamped_crosses ..)

theorem routeMark_crosses (p : Port) (w : Cell) (need arrival : Nat) (s : State) :
    Crosses p s (routeMark p w need arrival s) := by
  have count {f : Counters → Counters} (range : ∀ c, c.InRange → (f c).InRange) (same : ∀ c, passed (f c) = passed c) :
      Crosses p s (forwardCell p w (s.countAt p f)) := .after (countAt_works range same) (forwardCell_crosses ..)
  unfold routeMark
  split
  · exact count (fun c h => by rw [counters_inRange_iff] at h ⊢; simp_all [bump_le]) fun _ => rfl
  · split
    · exact count (fun c h => by rw [counters_inRange_iff] at h ⊢; simp_all [bump_le]) fun _ => rfl
    · split
      · next run => exact stampMark_crosses p w arrival run
      · exact forwardCell_crosses ..

/-- A good cell is consumed at its port, or crosses to the other one (R31 to R34). -/
theorem routeCell_ends (p : Port) (w : Cell) (arrival : Nat) (s : State) :
    Works (s.countAt p fun x => { x with consumed := bump x.consumed }) (routeCell p w arrival s) ∨
      Crosses p s (routeCell p w arrival s) := by
  unfold routeCell
  split
  · exact .inr (routeMark_crosses ..)
  · split
    · unfold routeRequest
      split
      · exact .inl (handOver_works ..)
      · split
        · have taken : Works s (s.countAt p fun x => { x with broadcastTaken := bump x.broadcastTaken }) :=
            countAt_works (fun c h => by rw [counters_inRange_iff] at h ⊢; simp_all [bump_le]) fun _ => rfl
          have handed := taken.trans (handToMgmt_works (requestOf p true w) _)
          exact .inr (.after handed (forwardCell_crosses p w _))
        · exact .inr (forwardCell_crosses ..)
    · exact .inr (forwardCell_crosses ..)

theorem received_keeps {s : State} {p : Port} {f : Counters → Counters} (range : ∀ c, c.InRange → (f c).InRange) :
    Keeps s (s.received p f) := by
  refine setPort_keeps fun ⟨queue, counters, sequence⟩ => ⟨queue, range _ ?_, sequence⟩
  rw [counters_inRange_iff] at counters ⊢
  simp_all [bump_le]

theorem received_stays (s : State) (p : Port) (f : Counters → Counters) : Stays s (s.received p f) := setPort_stays ..

theorem advances_of_stays {s t : State} (keeps : Keeps s t) (stays : Stays s t)
    (balance : CellsConserved s → CellsConserved t) : Advances s t :=
  { keeps with
    powered := stays.powered
    resetLow := stays.resetLow
    time := stays.time
    fits := stays.fits
    balance := balance }

theorem conserved_iff (p : Port) (s : State) : CellsConserved s ↔
    ConservedAt (s.port p).counters (s.port (otherPort p)).counters ∧
      ConservedAt (s.port (otherPort p)).counters (s.port p).counters := by
  cases p
  · exact Iff.rfl
  · exact And.comm

/-- A cell that ends at its port is balanced there (R43). -/
theorem conserved_ended {x y : Counters} (a d c : Nat) (h : ConservedAt x y) (ha : a = bump x.arrived)
    (one : d = bump x.damaged ∧ c = x.consumed ∨ d = x.damaged ∧ c = bump x.consumed) :
    a < Config.maxCounter → a = d + c + y.forwardedOut + y.overrun := by
  intro small
  unfold ConservedAt at h
  unfold bump at ha one
  omega

/-- A cell that crosses is balanced at the other port (R43). -/
theorem conserved_crossed {x y : Counters} (a f o : Nat) (h : ConservedAt x y) (ha : a = bump x.arrived)
    (one : f = bump y.forwardedOut ∧ o = y.overrun ∨ f = y.forwardedOut ∧ o = bump y.overrun) :
    a < Config.maxCounter → a = x.damaged + x.consumed + f + o := by
  intro small
  unfold ConservedAt at h
  unfold bump at ha one
  omega

theorem received_conserved {s : State} {p : Port} {f : Counters → Counters}
    (one : ∀ x, passed (f x) = passed { x with damaged := bump x.damaged } ∨
      passed (f x) = passed { x with consumed := bump x.consumed }) (h : CellsConserved s) :
    CellsConserved (s.received p f) := by
  rw [conserved_iff p] at h ⊢
  obtain ⟨here, there⟩ := h
  have counted := one { (s.port p).counters with arrived := bump (s.port p).counters.arrived }
  simp only [State.received, setPort_port_same, setPort_port_other]
  simp only [passed, List.cons.injEq, and_true] at counted
  refine ⟨?_, ?_⟩
  · refine conserved_ended _ _ _ here ?_ ?_
    · exact counted.elim (·.1) (·.1)
    · exact counted.imp (fun ⟨_, d, c, _⟩ => ⟨d, c⟩) fun ⟨_, d, c, _⟩ => ⟨d, c⟩
  · obtain ⟨forwarded, overrun⟩ : _ ∧ _ := counted.elim (fun ⟨_, _, _, f, o⟩ => ⟨f, o⟩) fun ⟨_, _, _, f, o⟩ => ⟨f, o⟩
    unfold ConservedAt
    rw [forwarded, overrun]
    exact there

theorem Crosses.conserved {s t : State} {p : Port} (g : Crosses p (s.received p id) t) (h : CellsConserved s) :
    CellsConserved t := by
  rw [conserved_iff p] at h ⊢
  obtain ⟨here, there⟩ := h
  obtain ⟨_, _, own, across⟩ := g
  simp only [State.received, setPort_port_same, setPort_port_other, id, passed, List.cons.injEq, and_true] at own across
  obtain ⟨arrived, damaged, consumed, forwarded, overrun⟩ := own
  refine ⟨?_, ?_⟩
  · unfold ConservedAt
    rw [damaged, consumed]
    exact conserved_crossed _ _ _ here arrived (across.imp (fun ⟨_, _, _, f, o⟩ => ⟨f, o⟩) fun ⟨_, _, _, f, o⟩ => ⟨f, o⟩)
  · obtain ⟨arrived', damaged', consumed'⟩ : _ ∧ _ ∧ _ :=
      across.elim (fun ⟨a, d, c, _⟩ => ⟨a, d, c⟩) fun ⟨a, d, c, _⟩ => ⟨a, d, c⟩
    unfold ConservedAt
    rw [arrived', damaged', consumed', forwarded, overrun]
    exact there

theorem damaged_inRange {c : Counters} (h : c.InRange) : ({ c with damaged := bump c.damaged } : Counters).InRange := by
  rw [counters_inRange_iff] at h ⊢
  simp_all [bump_le]

theorem consumed_inRange {c : Counters} (h : c.InRange) :
    ({ c with consumed := bump c.consumed } : Counters).InRange := by
  rw [counters_inRange_iff] at h ⊢
  simp_all [bump_le]

theorem arriveCell_advances (p : Port) (w : Cell) (s : State) :
    Advances s (arriveCell p w s) ∧ Stays s (arriveCell p w s) := by
  cases good : cellGood w
  · rw [arriveCell_damaged p w s good]
    have counted : Advances s (s.received p fun x => { x with damaged := bump x.damaged }) :=
      advances_of_stays (received_keeps fun _ => damaged_inRange) (received_stays ..)
        (received_conserved fun _ => .inl rfl)
    have raised := raise_works .linkDamage (d := [portCode p])
      (s.received p fun x => { x with damaged := bump x.damaged }) (by simp)
    exact ⟨counted.trans raised.advances, (received_stays ..).trans raised.toStays⟩
  · rw [arriveCell_good p w s good]
    obtain consumed | crossed := routeCell_ends p w (arrivalPt s p) (s.received p id)
    · rw [received_countAt] at consumed
      have counted : Advances s (s.received p fun x => { id x with consumed := bump (id x).consumed }) :=
        advances_of_stays (received_keeps fun _ => consumed_inRange) (received_stays ..)
          (received_conserved fun _ => .inr rfl)
      exact ⟨counted.trans consumed.advances, (received_stays ..).trans consumed.toStays⟩
    · have moved := (received_stays s p id).trans crossed.toStays
      exact ⟨advances_of_stays ((received_keeps fun _ h => h).trans crossed.toKeeps) moved crossed.conserved, moved⟩

end Sys2Proof.Proofs
end

section
/-! PROOFS. The passing of time (R2, R3, R13 to R17, R177): picture time goes on in step with the milliframe index. -/

namespace Sys2Proof.Proofs

open Sys2Proof.Machine Sys2Proof.Laws

/-- What the passing of time keeps: besides, a run goes on and its picture time never falls; no run begins but from
STARTING. -/
structure Passes (s t : State) : Prop extends Advances s t where
  paces : PictureTimeInStep s → s.mgmt.device = .running → t.mgmt.device = .running ∧ s.clock.pt ≤ t.clock.pt
  waits : s.mgmt.device ≠ .running → s.mgmt.device ≠ .starting → t.mgmt.device = s.mgmt.device

theorem Works.passes {s t : State} (h : Works s t) : Passes s t :=
  { h.advances with
    paces := fun _ run => ⟨h.device.trans run, h.pt.ge⟩
    waits := fun _ _ => h.device }

theorem Passes.refl (s : State) : Passes s s := (Works.refl s).passes

theorem Passes.trans {s t u : State} (h : Passes s t) (g : Passes t u) : Passes s u :=
  { h.toAdvances.trans g.toAdvances with
    paces := fun step run =>
      have ⟨run', le⟩ := h.paces step run
      have ⟨run'', le'⟩ := g.paces (h.time step) run'
      ⟨run'', le.trans le'⟩
    waits := fun run starting => by
      have same := h.waits run starting
      rw [← same] at run starting ⊢
      exact g.waits run starting }

/-! ### Milliframe boundaries (R3, R16) -/

/-- The milliframe boundary of `milliframe`, the cycles before it passed. -/
def milliframeBegun (s : State) : State :=
  let c := advancePt (s.mgmt.device == .running) s.clock
  { s with clock := { c with k := c.k + 1 } }

theorem advancePt_k (running : Bool) (c : HouseClock) : (advancePt running c).k = c.k := by
  unfold advancePt
  split
  · split <;> rfl
  · rfl

theorem advancePt_free (running : Bool) (c : HouseClock) :
    ((advancePt running c).state = .free ↔ (advancePt running c).params.externalRef = false) ↔
      (c.state = .free ↔ c.params.externalRef = false) := by
  unfold advancePt
  split
  · split <;> rfl
  · rfl

theorem milliframeBegun_rest {s : State} (rest : s.mgmt.device ≠ .running) :
    milliframeBegun s = { s with clock := { s.clock with k := s.clock.k + 1 } } := by
  have : (s.mgmt.device == .running) = false := by simpa using rest
  simp [milliframeBegun, advancePt, this]

theorem milliframeBegun_run {s : State} (run : s.mgmt.device = .running) :
    milliframeBegun s = { s with clock := { s.clock with
      k := s.clock.k + 1
      pt := if s.clock.hold = 0 then min (s.clock.pt + 1) Config.maxPt else s.clock.pt
      hold := s.clock.hold - 1 } } := by
  have : (s.mgmt.device == .running) = true := by simpa using run
  unfold milliframeBegun
  simp only [this, advancePt, if_true]
  split
  · next none => simp [none]
  · rfl

theorem milliframeBegun_passes {s : State} (k : s.clock.k < 999) : Passes s (milliframeBegun s) where
  toKeeps := { Keeps.refl s with free := (advancePt_free _ _).2 }
  powered := rfl
  resetLow := rfl
  fits := id
  balance := id
  waits := fun _ _ => rfl
  time := fun ⟨pt, _, still, run⟩ => by
    by_cases running : s.mgmt.device = .running
    · rw [milliframeBegun_run running]
      have inStep := run running
      refine ⟨?_, Nat.succ_lt_succ k, by simp [running], fun _ below => ?_⟩
      · dsimp only
        split <;> omega
      · simp only [Config.maxPt] at *
        split_ifs at * <;> omega
    · rw [milliframeBegun_rest running]
      exact ⟨pt, Nat.succ_lt_succ k, still, fun h => absurd h running⟩
  paces := fun ⟨pt, _⟩ run => by
    rw [milliframeBegun_run run]
    refine ⟨run, ?_⟩
    dsimp only
    split <;> omega

theorem milliframe_passes {s : State} (k : s.clock.k < 999) : Passes s (milliframe s) := by
  have elapsed := (settle_works s).trans (passCycles_works (cyclesToBoundary (settle s)) _)
  exact elapsed.passes.trans (milliframeBegun_passes (elapsed.k ▸ k))

theorem milliframe_k (s : State) : (milliframe s).clock.k = s.clock.k + 1 := by
  have elapsed := (settle_works s).trans (passCycles_works (cyclesToBoundary (settle s)) _)
  change (advancePt _ _).k + 1 = _
  rw [advancePt_k, elapsed.k]

theorem lastMilliframe_passes (n : Nat) (s : State) : Passes s (lastMilliframe n s) := by
  induction n generalizing s with
  | zero => exact .refl s
  | succ n ih =>
    unfold lastMilliframe
    split
    · next k => exact (milliframe_passes k).trans (ih _)
    · exact .refl s

theorem lastMilliframe_k (n : Nat) (s : State) (enough : 999 ≤ s.clock.k + n) :
    999 ≤ (lastMilliframe n s).clock.k := by
  induction n generalizing s with
  | zero => simpa [lastMilliframe] using enough
  | succ n ih =>
    unfold lastMilliframe
    split
    · exact ih _ (by rw [milliframe_k]; omega)
    · omega

/-! ### House frame boundaries (R2, R177) -/

/-- A frame begun: the phase and the milliframe index at 0, no hold, picture time at a whole frame in a run. -/
def phaseBegun (pt : Nat) (s : State) : State :=
  { s with clock := { s.clock with
    phase := 0, k := 0, hold := 0, period := (houseRate s.clock.params.rate).period
    pt := if s.mgmt.device = .running then pt else s.clock.pt } }

theorem phaseBegun_passes {s : State} {pt : Nat}
    (whole : PictureTimeInStep s → s.mgmt.device = .running →
      s.clock.pt ≤ pt ∧ pt ≤ Config.maxPt ∧ (pt < Config.maxPt → pt % 1000 = 0)) :
    Passes s (phaseBegun pt s) :=
  { Passes.refl s with
    time := fun step => by
      by_cases running : s.mgmt.device = .running
      · obtain ⟨_, range, zero⟩ := whole step running
        simp only [PictureTimeInStep, phaseBegun, running]
        exact ⟨range, by decide, by simp, fun _ => zero⟩
      · obtain ⟨range, _, still, _⟩ := step
        simp only [PictureTimeInStep, phaseBegun, if_neg running]
        exact ⟨range, by decide, still, fun h => absurd h running⟩
    paces := fun step run => ⟨run, by simpa [phaseBegun, run] using (whole step run).1⟩ }

/-- A run begun but for its tick lines (R177). -/
def runBegun (s : State) : State :=
  { s with
    mgmt := { s.mgmt with device := .running }
    clock := { s.clock with pt := 0 }
    tick := { countdown := s.settings.tickInterval, due := s.settings.tickInterval != 0 }
    tables := { s.tables with walk := .idle } }

theorem runBegun_passes {s : State} (starting : s.mgmt.device = .starting) (k : s.clock.k = 0)
    (hold : s.clock.hold = 0) : Passes s (runBegun s) :=
  { Passes.refl s with
    rests := fun _ h => absurd rfl h
    time := fun ⟨_, range, _⟩ => ⟨Nat.zero_le _, range, by simp [runBegun], fun _ _ => by simp [runBegun, k, hold]⟩
    fits := fun h => by simpa [AddressFitsState, starting, runBegun] using h
    paces := fun _ run => by simp [starting] at run
    waits := fun _ h => absurd starting h }

theorem beginFrame_passes {s : State} {pt : Nat}
    (whole : PictureTimeInStep s → s.mgmt.device = .running →
      s.clock.pt ≤ pt ∧ pt ≤ Config.maxPt ∧ (pt < Config.maxPt → pt % 1000 = 0)) :
    Passes s (beginFrame pt s) := by
  refine (phaseBegun_passes whole).trans ?_
  change Passes (phaseBegun pt s) (if runReady s then restartLines (runBegun (phaseBegun pt s))
    else framePaced (phaseBegun pt s))
  split
  · next ready =>
    simp only [runReady, Bool.and_eq_true, beq_iff_eq] at ready
    exact (runBegun_passes (s := phaseBegun pt s) ready.1 rfl rfl).trans (restartLines_works _).passes
  · exact (framePaced_works _).passes

theorem endFrame_passes {s : State} (k : 999 ≤ s.clock.k) : Passes s (endFrame s) := by
  have elapsed := (settle_works s).trans (passCycles_works (cyclesToBoundary (settle s)) _)
  refine elapsed.passes.trans (beginFrame_passes ?_)
  rw [← elapsed.k] at k
  intro ⟨range, k', _, run⟩ running
  have inStep := run running
  simp only [Config.maxPt] at *
  omega

theorem nextFrame_passes (s : State) : Passes s (nextFrame s) :=
  (lastMilliframe_passes 999 s).trans (endFrame_passes (lastMilliframe_k 999 s (Nat.le_add_left _ _)))

theorem beginFrame_k (pt : Nat) (s : State) : (beginFrame pt s).clock.k = 0 := by
  change (if runReady s then restartLines (runBegun (phaseBegun pt s)) else framePaced (phaseBegun pt s)).clock.k = 0
  split
  · rw [(restartLines_works _).k]; rfl
  · rw [(framePaced_works _).k]; rfl

theorem nextMilliframe_passes (s : State) : Passes s (nextMilliframe s) := by
  unfold nextMilliframe
  split
  · next k => exact milliframe_passes k
  · next k =>
    refine (endFrame_passes (Nat.le_of_not_lt k)).trans (milliframe_passes ?_)
    unfold endFrame
    rw [beginFrame_k]
    decide

theorem clockTick_passes (s : State) : Passes s (clockTick s) := by
  unfold clockTick
  split
  · split
    · next k => exact milliframe_passes k
    · next k => exact endFrame_passes (Nat.le_of_not_lt k)
  · exact (passCycles_works 1 s).passes

/-! ### Step and hold (R16) -/

theorem align_passes (s : State) : Passes s (align s) := by
  unfold align
  split
  · refine (settle_works s).passes.trans (beginFrame_passes ?_)
    intro ⟨range, _⟩ _
    unfold nextThousand
    simp only [Config.maxPt] at *
    omega
  · next early =>
    refine { Passes.refl s with time := fun ⟨pt, k, still, run⟩ => ⟨pt, by dsimp only; decide, still, ?_⟩ }
    intro running below
    have inStep := run running below
    change s.clock.pt % 1000 = 0 + if s.mgmt.device = .running then s.clock.hold + s.clock.k else 0
    rw [if_pos running, inStep]
    omega

theorem setMonitor_passes {s : State} {m : RefMonitor} (noise : s.monitor.noise ≤ Config.maxCounter →
    m.noise ≤ Config.maxCounter) : Passes s { s with monitor := m } := (setMonitor_works noise).passes

theorem lockReference_passes {s : State} (external : s.clock.state ≠ .free) : Passes s (lockReference s) := by
  have locked : Works s { s with clock := { s.clock with state := .locked } } :=
    { Works.refl s with free := fun h => iff_of_false nofun fun i => external (h.2 i) }
  refine locked.passes.trans ((align_passes _).trans ?_)
  refine Passes.trans (setMonitor_passes ?_) (raise_works _ _ ?_).passes
  · exact id
  · unfold alignDetail
    split <;> simp

theorem judgeInterval_passes {s : State} (interval : Nat) (external : s.clock.state ≠ .free) :
    Passes s (judgeInterval interval s) := by
  unfold judgeInterval
  dsimp only
  split
  · have counted : Passes s { s with monitor := { s.monitor with good := s.monitor.good + 1, armed := true } } :=
      setMonitor_passes id
    split
    · exact counted.trans (lockReference_passes external)
    · exact counted
  · have cleared : Passes s { s with monitor := { s.monitor with good := 0, armed := false } } := setMonitor_passes id
    split
    · exact cleared.trans (raise_works _ _ (by simp [satBytes])).passes
    · exact cleared

theorem judgePhase_passes {s : State} (external : s.clock.state ≠ .free) : Passes s (judgePhase s) := by
  unfold judgePhase
  dsimp only
  split
  · have within : Passes s { s with monitor := { s.monitor with bad := 0 } } := setMonitor_passes id
    exact within.trans (align_passes _)
  · have counted : Passes s { s with monitor := { s.monitor with bad := s.monitor.bad + 1 } } := setMonitor_passes id
    split
    · refine counted.trans (Works.passes ?_)
      exact loseReference_works 1 external
    · exact counted

theorem refPulse_passes (s : State) : Passes s (refPulse s) := by
  unfold refPulse
  split
  · exact .refl s
  · next external =>
    split
    · exact setMonitor_passes fun _ => bump_le _
    · unfold acceptPulse
      dsimp only
      have taken : Passes s { s with monitor := { s.monitor with last := some s.clock.now, missing := true } } :=
        setMonitor_passes id
      split
      · exact taken
      · split
        · exact taken.trans (judgePhase_passes external)
        · exact taken.trans (judgeInterval_passes _ external)

theorem missingExpiry_works (s : State) : Works s (missingExpiry s) := by
  unfold missingExpiry
  split
  · have settled (left : Nat) : Works s (if left = 0 then s else settle s) :=
      Works.ite (fun _ => .refl s) fun _ => settle_works s
    exact ((settled _).trans (passCycles_works _ _)).trans (expireMissing_works _)
  · exact .refl s

end Sys2Proof.Proofs
end

section
/-! PROOFS. Every command keeps the invariants: the requests as they begin (R172, R173), what the part does while it
acts, and the supply and RESETn lines (R168 to R170). -/

namespace Sys2Proof.Proofs

open Sys2Proof.Machine Sys2Proof.Laws

/-! ### Requests that begin -/

/-- What a request that begins keeps: a run goes on with its picture time, or ends in CONFIGURING. -/
structure Serves (s t : State) : Prop extends Advances s t where
  ends : s.mgmt.device = .running →
    t.mgmt.device = .running ∧ t.clock.pt = s.clock.pt ∨ t.mgmt.device = .configuring

theorem Works.serves {s t : State} (h : Works s t) : Serves s t :=
  { h.advances with ends := fun run => .inl ⟨h.device.trans run, h.pt⟩ }

theorem Advances.serves {s t : State} (h : Advances s t) (rest : s.mgmt.device ≠ .running) : Serves s t :=
  { h with ends := fun run => absurd run rest }

/-- A handling's beginning keeps what its act keeps of a long enough request in a state that serves it. -/
theorem beginHandling_serves {isKind : Nat → Bool} {served : DeviceState → Bool} {act : Request → State → Verdict}
    {s : State} (acts : ∀ r, served s.mgmt.device = true → Serves s (act r s).after) :
    Serves s (beginHandling isKind served act s) := by
  obtain same | ⟨r, rest, inbox, after⟩ | ⟨a, after⟩ | ⟨r, rest, a, _, _, kind, long, serves, after⟩ :=
    beginHandling_cases isKind served act s
  · rw [same]; exact (Works.refl s).serves
  · rw [after]; exact (popInbox_works inbox _).serves
  · rw [after]; exact (setHandling_works _ s).serves
  · rw [after]
    have acted := acts r serves
    exact { acted.toAdvances.trans (setHandling_works a (act r s).after).advances with ends := acted.ends }

theorem beginHandling_reads {isKind : Nat → Bool} {served : DeviceState → Bool} {act : Request → State → Verdict}
    {s : State} (reads : ∀ r, (act r s).after = s) : Works s (beginHandling isKind served act s) :=
  beginHandling_works fun r _ _ _ => by rw [reads]; exact .refl s

theorem inConfiguring_iff (d : DeviceState) : inConfiguring d = true ↔ d = .configuring := by simp [inConfiguring]

theorem beginSetAddress_serves (s : State) : Serves s (beginSetAddress s) :=
  beginHandling_serves fun r served => by
    have rest : s.mgmt.device ≠ .running := fun run => by simp [run, inAddressingConfiguring] at served
    exact (actSetAddress_advances rest).serves rest

theorem beginForget_serves (s : State) : Serves s (beginForget s) :=
  beginHandling_serves fun r served => by
    have rest : s.mgmt.device ≠ .running := by simp [(inConfiguring_iff _).1 served]
    exact (actForget_advances rest).serves rest

theorem beginRunRequest_serves (s : State) : Serves s (beginRunRequest s) :=
  beginHandling_serves fun r served => by
    have configuring := (inConfiguring_iff _).1 served
    exact (actRun_advances configuring).serves (by simp [configuring])

theorem actHalt_device (r : Request) (s : State) : (actHalt r s).after.mgmt.device = .configuring := by
  unfold actHalt
  dsimp only [accept]
  split <;> rfl

theorem beginHalt_serves (s : State) : Serves s (beginHalt s) :=
  beginHandling_serves fun r served =>
    { actHalt_advances served with ends := fun _ => .inr (actHalt_device r s) }

theorem beginClear_serves (s : State) : Serves s (beginClear s) :=
  beginHandling_serves fun _ served => { actClear_advances served with ends := fun _ => .inr rfl }

theorem inRunning_iff (d : DeviceState) : inRunning d = true ↔ d = .running := by simp [inRunning]

theorem beginWriteSource_works (s : State) : Works s (beginWriteSource s) :=
  beginHandling_works fun r kind long _ => actWriteSource_works s (by
    have code : r.kind = 12 := by simpa [isCode] using kind
    rw [code] at long
    exact le_trans (by decide) long)

theorem beginOpen_works (s : State) : Works s (beginOpen s) :=
  beginHandling_works fun _ _ _ served => actOpen_works ((inRunning_iff _).1 served)

theorem beginReopen_works (s : State) : Works s (beginReopen s) :=
  beginHandling_works fun _ _ _ served => actReopen_works ((inRunning_iff _).1 served)

theorem beginSaveAddress_works (s : State) : Works s (beginSaveAddress s) :=
  beginHandling_works fun r _ _ _ => actSaveAddress_works r s
theorem beginClockApply_works (s : State) : Works s (beginClockApply s) :=
  beginHandling_works fun r _ _ _ => actClockApply_works r s
theorem beginMap_works (s : State) : Works s (beginMap s) := beginHandling_works fun r _ _ _ => actMap_works r s
theorem beginUnmap_works (s : State) : Works s (beginUnmap s) := beginHandling_works fun r _ _ _ => actUnmap_works r s
theorem beginWriteGroup_works (s : State) : Works s (beginWriteGroup s) :=
  beginHandling_works fun r _ _ _ => actWriteGroup_works r s
theorem beginInject_works (s : State) : Works s (beginInject s) :=
  beginHandling_works fun r _ _ _ => actInject_works r s
theorem beginWriteParams_works (s : State) : Works s (beginWriteParams s) :=
  beginHandling_works fun r _ _ _ => actWriteParams_works r s
theorem beginClose_works (s : State) : Works s (beginClose s) := beginHandling_works fun r _ _ _ => actClose_works r s
theorem beginClearEvents_works (s : State) : Works s (beginClearEvents s) :=
  beginHandling_works fun r _ _ _ => actClearEvents_works r s
theorem beginIdentify_works (s : State) : Works s (beginIdentify s) := beginHandling_reads fun _ => rfl
theorem beginReadMap_works (s : State) : Works s (beginReadMap s) := beginHandling_reads fun r => actReadMap_after r s
theorem beginReadSource_works (s : State) : Works s (beginReadSource s) :=
  beginHandling_reads fun r => actReadSource_after r s
theorem beginReadGroup_works (s : State) : Works s (beginReadGroup s) :=
  beginHandling_reads fun r => actReadGroup_after r s
theorem beginReadParams_works (s : State) : Works s (beginReadParams s) := beginHandling_reads fun _ => rfl
theorem beginReadContext_works (s : State) : Works s (beginReadContext s) :=
  beginHandling_reads fun r => actReadContext_after r s
theorem beginReadStatus_works (s : State) : Works s (beginReadStatus s) := beginHandling_reads fun _ => rfl
theorem beginReadEvents_works (s : State) : Works s (beginReadEvents s) :=
  beginHandling_reads fun r => actReadEvents_after r s
theorem beginUnknown_works (s : State) : Works s (beginUnknown s) := beginHandling_reads fun _ => rfl

theorem beginManagement_serves (s : State) : Serves s (beginManagement s) := by
  unfold beginManagement
  split
  · exact (Works.refl s).serves
  · split
    · exact beginSetAddress_serves s
    · exact (beginIdentify_works s).serves
    · exact beginForget_serves s
    · exact (beginSaveAddress_works s).serves
    · exact (beginClockApply_works s).serves
    · exact beginRunRequest_serves s
    · exact beginHalt_serves s
    · exact beginClear_serves s
    · exact (beginMap_works s).serves
    · exact (beginUnmap_works s).serves
    · exact (beginReadMap_works s).serves
    · exact (beginWriteSource_works s).serves
    · exact (beginReadSource_works s).serves
    · exact (beginWriteGroup_works s).serves
    · exact (beginReadGroup_works s).serves
    · exact (beginInject_works s).serves
    · exact (beginWriteParams_works s).serves
    · exact (beginReadParams_works s).serves
    · exact (beginOpen_works s).serves
    · exact (beginClose_works s).serves
    · exact (beginReopen_works s).serves
    · exact (beginReadContext_works s).serves
    · exact (beginReadStatus_works s).serves
    · exact (beginReadEvents_works s).serves
    · exact (beginClearEvents_works s).serves
    · exact (beginUnknown_works s).serves

/-! ### Steps -/

/-- What every step keeps. -/
structure Steps (s t : State) : Prop extends Keeps s t where
  time : PictureTimeInStep s → PictureTimeInStep t
  fits : AddressFitsState s → AddressFitsState t
  balance : CellsConserved s → CellsConserved t
  still : StillWhileReset s → StillWhileReset t
  onward : PictureTimeInStep s → s.mgmt.device = .running → t.mgmt.device = .running → s.clock.pt ≤ t.clock.pt

theorem Advances.steps {s t : State} (h : Advances s t) (alive : s.alive = true)
    (onward : PictureTimeInStep s → s.mgmt.device = .running → t.mgmt.device = .running → s.clock.pt ≤ t.clock.pt) :
    Steps s t :=
  { h with
    still := fun _ held => by
      rw [State.alive, h.powered, h.resetLow] at held
      exact absurd alive (by simp [State.alive, held])
    onward := onward }

theorem Passes.steps {s t : State} (h : Passes s t) (alive : s.alive = true) : Steps s t :=
  h.toAdvances.steps alive fun step run _ => (h.paces step run).2

theorem Works.steps {s t : State} (h : Works s t) (alive : s.alive = true) : Steps s t := h.passes.steps alive

theorem Serves.steps {s t : State} (h : Serves s t) (alive : s.alive = true) : Steps s t :=
  h.toAdvances.steps alive fun _ run run' => by
    obtain ⟨_, same⟩ | ended := h.ends run
    · exact same.ge
    · simp [ended] at run'

theorem Steps.refl (s : State) : Steps s s :=
  { Advances.refl s with still := id, onward := fun _ _ _ => le_rfl }

theorem whenAlive_steps {f : State → State} {s t : State} (h : s.alive = true → Steps s (f s))
    (out : whenAlive f s = .next t) : Steps s t := by
  unfold whenAlive at out
  split at out
  · next alive => cases out; exact h alive
  · cases out; exact .refl s

/-- One tick of MCLK with no command waiting. -/
theorem idle_steps (s : State) : Steps s (idle s) := by
  unfold idle
  split
  · next alive =>
    have settled := (settle_works s).trans (walkTick_works (settle s))
    have begun := beginManagement_serves (walkTick (settle s))
    have taken := ((beginLocate_works (beginManagement (walkTick (settle s)))).trans
      (startSending_works .stage _)).trans (startSending_works .post _)
    have passed := taken.passes.trans (clockTick_passes _)
    refine (settled.advances.trans (begun.toAdvances.trans passed.toAdvances)).steps alive fun step run run' => ?_
    obtain ⟨running, pt⟩ | ended := begun.ends (settled.device.trans run)
    · have go := (passed.paces (begun.time (settled.time step)) running).2
      rwa [pt, settled.pt] at go
    · have waits := passed.waits (by simp [ended]) (by simp [ended])
      simp [waits, ended] at run'
  · exact .refl s

/-! ### Supply and RESETn (R168 to R170) -/

theorem powerUpValues_steps (s u : State) (keeps : Keeps u s) : Steps u (powerUpValues s) :=
  { keeps.trans (powerUpValues_keeps s) with
    time := fun _ => ⟨Nat.zero_le _, Nat.succ_pos 999, fun _ => rfl, nofun⟩
    fits := fun _ => rfl
    balance := fun _ => ⟨emptyCounters_conserved, emptyCounters_conserved⟩
    still := fun _ _ => powerUpValues_twice s
    onward := fun _ _ => nofun }

theorem enterBoot_steps (s u : State) (keeps : Keeps u s) : Steps u (enterBoot s) :=
  have values := powerUpValues_steps s u keeps
  { values with
    still := fun _ held => by
      have dead : (powerUpValues s).alive = false := held
      unfold enterBoot
      dsimp only
      rw [dead]
      exact powerUpValues_twice s }

theorem supply_keeps (s : State) (powered low : Bool) : Keeps s { s with powered := powered, resetLow := low } :=
  { Keeps.refl s with }

/-! ### The physical layer (R29, R39) -/

theorem setPort_steps {s : State} {p : Port} {x : PortState} (range : PortInRange (s.port p) → PortInRange x)
    (same : x.counters = (s.port p).counters)
    (still : powerUpValues s = s → powerUpValues (s.setPort p x) = s.setPort p x) : Steps s (s.setPort p x) :=
  have works := setPort_works range (congrArg passed same)
  { works.advances with
    still := fun h held => still (h (by rwa [works.toStays.alive] at held))
    onward := fun _ _ _ => works.pt.ge }

theorem powerUpValues_heldOff (p : Port) (b : Bool) (s : State) :
    powerUpValues (s.setPort p { s.port p with heldOff := b }) =
      (powerUpValues s).setPort p { (powerUpValues s).port p with heldOff := b } := by
  cases p <;> rfl

theorem headerComplete_steps (p : Port) (s : State) : Steps s (s.setPort p { s.port p with
    header := some (if s.alive then { pt := s.clock.pt, beforeStarting := false } else .discard) }) := by
  cases alive : s.alive
  · refine setPort_steps id rfl fun values => ?_
    simp only [Bool.false_eq_true, if_false]
    rw [powerUpValues_discard, values]
  · refine Works.steps ?_ alive
    exact setPort_works id rfl

theorem passDiscarded_steps (p : Port) (s : State) : Steps s (passDiscarded p s) := by
  refine setPort_steps id rfl fun values => ?_
  change powerUpValues (passDiscarded p s) = passDiscarded p s
  rw [powerUpValues_passDiscarded, values]

theorem heldOff_steps (p : Port) (b : Bool) (s : State) : Steps s (s.setPort p { s.port p with heldOff := b }) :=
  setPort_steps id rfl fun values => by rw [powerUpValues_heldOff, values]

/-! ### Every command -/

theorem cellArrival_steps {p : Port} {w : Cell} {s t : State} (out : execCellArrival p w s = .next t) :
    Steps s t := by
  unfold execCellArrival at out
  split at out
  · next taken =>
    cases out
    obtain ⟨advances, stays⟩ := arriveCell_advances p w s
    exact advances.steps (Bool.and_eq_true_iff.1 taken).1 fun _ _ _ => stays.pt.ge
  · cases out
    exact passDiscarded_steps p s

theorem cellSend_steps {p : Port} {s t : State}
    (out : execCellSendStart p s = .next t ∨ execCellSendEnd p s = .next t) : Steps s t := by
  obtain out | out := out
  · exact whenAlive_steps (fun alive => (startSending_works p s).steps alive) out
  · exact whenAlive_steps (f := fun s => s.setPort p { s.port p with sending := none })
      (fun alive => Works.steps (by exact setPort_works id rfl) alive) out

theorem bootRecordReadEnd_steps {s t : State} (out : execBootRecordReadEnd s = .next t) : Steps s t := by
  refine whenAlive_steps (fun alive => ?_) out
  split
  · next reading =>
    simp only [Bool.and_eq_true, beq_iff_eq] at reading
    exact (bootReadEnd_advances reading.1).steps alive fun _ run => by simp [reading.1] at run
  · exact .refl s

theorem tickLineToggle_steps {l : Line} {s t : State} (out : execTickLineToggle l s = .next t) : Steps s t := by
  cases l
  · exact whenAlive_steps (fun alive => (toggleA_works s).steps alive) out
  · exact whenAlive_steps (fun alive => (toggleB_works s).steps alive) out

theorem resetnRelease_steps {s t : State} (out : execResetnRelease s = .next t) : Steps s t := by
  unfold execResetnRelease at out
  split at out
  · cases out; exact enterBoot_steps _ s (supply_keeps s s.powered false)
  · cases out; exact .refl s

theorem silenceExpiry_steps {n : Nat} {s t : State} (out : execSilenceExpiry n s = .next t) : Steps s t := by
  refine whenAlive_steps (fun alive => ?_) out
  split
  · exact (expireSilence_works _ s).steps alive
  · exact .refl s

theorem runBegin_steps {s t : State} (out : execRunBegin s = .next t) : Steps s t := by
  refine whenAlive_steps (fun alive => ?_) out
  split
  · exact (nextFrame_passes s).steps alive
  · exact .refl s

theorem exec_steps {c : Instr} {s t : State} (out : exec c s = .next t) : Steps s t := by
  have works {f : State → State} (h : ∀ u, Works u (f u)) (out : whenAlive f s = .next t) : Steps s t :=
    whenAlive_steps (fun alive => (h s).steps alive) out
  have serves {f : State → State} (h : ∀ u, Serves u (f u)) (out : whenAlive f s = .next t) : Steps s t :=
    whenAlive_steps (fun alive => (h s).steps alive) out
  have passes {f : State → State} (h : ∀ u, Passes u (f u)) (out : whenAlive f s = .next t) : Steps s t :=
    whenAlive_steps (fun alive => (h s).steps alive) out
  cases c with
  | powerUp => cases out; exact enterBoot_steps _ s (supply_keeps s true s.resetLow)
  | powerLost => cases out; exact powerUpValues_steps _ s (supply_keeps s false s.resetLow)
  | resetnAssert => cases out; exact powerUpValues_steps _ s (supply_keeps s s.powered true)
  | resetnRelease => exact resetnRelease_steps out
  | bootRecordReadEnd => exact bootRecordReadEnd_steps out
  | bootRecordWriteEnd => exact works bootWriteEnd_works out
  | refinPulse => exact passes refPulse_passes out
  | missingTimerExpiry => exact works missingExpiry_works out
  | frameBoundary => exact passes nextFrame_passes out
  | milliframeBoundary => exact passes nextMilliframe_passes out
  | tickDue => exact works makeTick_works out
  | tickLineToggle l => exact tickLineToggle_steps out
  | tickbChainedToggle =>
    exact works (fun u => Works.ite (fun _ => toggleB_works u) fun _ => .refl u) out
  | cellHeaderComplete p => cases out; exact headerComplete_steps p s
  | cellArrival p w => exact cellArrival_steps out
  | cellSendStart p => exact cellSend_steps (.inl out)
  | cellSendEnd p => exact cellSend_steps (.inr out)
  | silenceExpiry slot => exact silenceExpiry_steps out
  | clapDeadline n => exact works (fun u => Works.ite (fun _ => endClap_works n u) fun _ => .refl u) out
  | transientDeadline i => exact works (expireTransient_works i) out
  | validationWalkCheck => exact works walkCheck_works out
  | validationWalkEnd => exact works walkEnd_works out
  | runBegin => exact runBegin_steps out
  | mgmtHandlingEnd => exact works handlingEnd_works out
  | locateServiceEnd => exact works endService_works out
  | setAddress => exact serves beginSetAddress_serves out
  | identify => exact works beginIdentify_works out
  | forget => exact serves beginForget_serves out
  | saveAddress => exact works beginSaveAddress_works out
  | clockApply => exact works beginClockApply_works out
  | run => exact serves beginRunRequest_serves out
  | halt => exact serves beginHalt_serves out
  | clear => exact serves beginClear_serves out
  | mapKey => exact works beginMap_works out
  | unmapKey => exact works beginUnmap_works out
  | readMap => exact works beginReadMap_works out
  | writeSource => exact works beginWriteSource_works out
  | readSource => exact works beginReadSource_works out
  | writeGroup => exact works beginWriteGroup_works out
  | readGroup => exact works beginReadGroup_works out
  | inject => exact works beginInject_works out
  | writeParams => exact works beginWriteParams_works out
  | readParams => exact works beginReadParams_works out
  | openSource => exact works beginOpen_works out
  | closeSource => exact works beginClose_works out
  | reopenSource => exact works beginReopen_works out
  | readContext => exact works beginReadContext_works out
  | readStatus => exact works beginReadStatus_works out
  | readEvents => exact works beginReadEvents_works out
  | clearEvents => exact works beginClearEvents_works out
  | unknownRequest => exact works beginUnknown_works out
  | locateTime => exact works (beginService_works _ _) out
  | locateCount => exact works (beginService_works _ _) out
  | takeQuery => exact works (beginService_works _ _) out
  | takeFind => exact works (beginService_works _ _) out
  | takeAt => exact works (beginService_works _ _) out
  | transmitterHoldOff p => cases out; exact heldOff_steps p true s
  | transmitterHoldOffEnd p => cases out; exact heldOff_steps p false s

/-- The command taken from the queue leaves every invariant (R168). -/
theorem Steps.of_pending {s t : State} {rest : List Instr} (h : Steps { s with pending := rest } t) : Steps s t :=
  have same : Keeps s { s with pending := rest } := { Keeps.refl s with }
  { same.trans h.toKeeps with
    time := h.time
    fits := h.fits
    balance := h.balance
    still := fun values => h.still fun held =>
      congrArg (fun u : State => { u with pending := rest }) (values held)
    onward := h.onward }

theorem step_steps {s t : State} (out : step s = .next t) : Steps s t := by
  unfold step at out
  split at out
  · cases out; exact idle_steps s
  · exact (exec_steps out).of_pending

end Sys2Proof.Proofs
end

section
/-! PROOFS. The invariants of every step, and what reset leaves. -/

namespace Sys2Proof.Proofs

open Sys2Proof.Machine Sys2Proof.Laws

/-! ### The invariants of a step -/

/-- The capacities and ranges, block by block. -/
theorem capacities_iff (s : State) : WithinCapacity s ∧ WithinRanges s ↔
    PortInRange s.portS ∧ PortInRange s.portP ∧ s.mgmt.inbox.length ≤ Config.inboxCapacity ∧
    s.locate.queue.length ≤ Config.locateCapacity ∧ s.monitor.noise ≤ Config.maxCounter ∧
    s.tables.scrubPos < 400 ∧ LogInRange s.log ∧ PairingInRange s.pairing ∧
    ∀ i, (s.ctx i).CountersInRange := by
  unfold WithinCapacity WithinRanges PortInRange LogInRange PairingInRange
  tauto

/-- Settles O6, block by block from what every step keeps. -/
theorem stepKeepsCapacitiesAndRanges : Obligations.StepKeepsCapacitiesAndRanges := by
  intro s t capacity ranges out
  have keeps := step_steps out
  obtain ⟨stage, post, inbox, queue, noise, scrubPos, log, pairing, counters⟩ := (capacities_iff s).1 ⟨capacity, ranges⟩
  exact (capacities_iff t).2 ⟨keeps.stage stage, keeps.post post, keeps.inbox inbox, keeps.queue queue,
    keeps.noise noise, keeps.scrubPos scrubPos, keeps.log log, keeps.pairing pairing, keeps.counters counters⟩

/-- Settles O7: events are recorded and cleared sound, and FAULTn is evaluated with them. -/
theorem stepKeepsEventsAndAlarm : Obligations.StepKeepsEventsAndAlarm :=
  fun _ _ sound alarm out => (step_steps out).events ⟨sound, alarm⟩

/-- Settles O8: picture time moves at the boundaries alone, in step with the milliframe index. -/
theorem stepKeepsPictureTimeInStep : Obligations.StepKeepsPictureTimeInStep :=
  fun _ _ inStep out => ⟨(step_steps out).time inStep, (step_steps out).onward inStep⟩

/-- Settles O9, each mode from its own premise. -/
theorem stepKeepsModesLegal : Obligations.StepKeepsModesLegal :=
  fun _ _ out => ⟨(step_steps out).free, (step_steps out).fits, (step_steps out).still⟩

/-- Settles O10: MAP writes one entry in its key's set, where no other has its key or its slot. -/
theorem stepKeepsMapUnique : Obligations.StepKeepsMapUnique := fun _ _ unique out => (step_steps out).map unique

/-- Settles O11: writes clamp, an opening copies its entry, and every later change of trim and latency adjust is
clamped to the working copy. -/
theorem stepKeepsEntriesInRange : Obligations.StepKeepsEntriesInRange :=
  fun _ _ range out => (step_steps out).entries range

/-- Settles O12: a context opens, and a clap or a transient waits, in RUNNING alone, and every way out of it closes. -/
theorem stepKeepsRestOutsideRun : Obligations.StepKeepsRestOutsideRun :=
  fun _ _ rests out => (step_steps out).rests rests

/-- Settles O13: an entry joins at the back under the next number, and the oldest leaves at the front. -/
theorem stepKeepsLogNumbered : Obligations.StepKeepsLogNumbered :=
  fun _ _ numbered out => (step_steps out).numbered numbered

/-- Settles O14: a cell that arrives is counted once at its port, or once at the other. -/
theorem stepKeepsCellsConserved : Obligations.StepKeepsCellsConserved :=
  fun _ _ conserved out => (step_steps out).balance conserved

/-! ### Reset -/

theorem emptyPort_inRange : PortInRange {} := ⟨Nat.zero_le _, emptyCounters_inRange, Nat.succ_pos 255⟩

theorem reset_capacities : WithinCapacity State.reset ∧ WithinRanges State.reset :=
  (capacities_iff _).2 ⟨emptyPort_inRange, emptyPort_inRange, Nat.zero_le _, Nat.zero_le _, Nat.zero_le _,
    Nat.succ_pos 399, reset_renewed.logInRange, reset_renewed.pairingInRange, reset_renewed.countersInRange⟩

/-- Settles O4: every block is empty or at 0. -/
theorem resetHasEveryInvariant : Obligations.ResetHasEveryInvariant :=
  ⟨reset_capacities.1, reset_capacities.2, reset_renewed.eventsSound, reset_renewed.alarmFollowsFlags,
    ⟨Nat.zero_le _, Nat.succ_pos 999, fun _ => rfl, nofun⟩, iff_of_true rfl rfl, rfl, nofun,
    reset_renewed.mapUnique, reset_renewed.entriesInRange, reset_renewed.restsOutsideRun,
    emptyLog_numbered rfl, emptyCounters_conserved, emptyCounters_conserved⟩

/-- As delivered the record holds each field's default (R182). -/
theorem reset_params : (List.range fieldCount).map State.reset.param =
    (List.range fieldCount).map fun c => (BitVec.ofNat 32 (defaultParam c)).toNat := by
  refine List.map_congr_left fun c below => ?_
  have bound : c < fieldCount := List.mem_range.1 below
  simp [State.param, State.reset, bound]

theorem reset_defaultedCodes : defaultedCodes State.reset = [] := by
  simp [defaultedCodes, State.reset]

/-- Settles O5, block by block. -/
theorem resetLeavesPowerUpValues : Obligations.ResetLeavesPowerUpValues := by
  refine ⟨rfl, rfl, rfl, rfl, rfl, rfl, rfl, rfl, rfl, rfl, rfl, rfl, rfl, rfl, rfl, rfl, rfl, rfl,
    reset_renewed.mapAt, reset_renewed.sourceAt, reset_renewed.group, rfl, reset_renewed.ctx, rfl, rfl, rfl,
    reset_renewed.event, rfl, reset_defaultedCodes, ?_⟩
  rw [reset_params]
  decide

/-! ### The command queue, and a part that is held -/

/-- Settles O1: the step's own equation for a queue with a front. -/
theorem stepRunsFrontCommand : Obligations.StepRunsFrontCommand := fun _ _ _ => rfl

theorem whenAlive_held {s : State} (f : State → State) (held : s.alive = false) : whenAlive f s = .next s := by
  simp [whenAlive, held]

theorem exec_held {c : Instr} {s : State} (held : s.alive = false) (up : c ≠ .powerUp) (lost : c ≠ .powerLost)
    (low : c ≠ .resetnAssert) (high : c ≠ .resetnRelease) (hold : ∀ p, c ≠ .transmitterHoldOff p)
    (release : ∀ p, c ≠ .transmitterHoldOffEnd p) (header : ∀ p, c ≠ .cellHeaderComplete p)
    (arrival : ∀ p w, c ≠ .cellArrival p w) : exec c s = .next s := by
  cases c with
  | powerUp => exact absurd rfl up
  | powerLost => exact absurd rfl lost
  | resetnAssert => exact absurd rfl low
  | resetnRelease => exact absurd rfl high
  | transmitterHoldOff p => exact absurd rfl (hold p)
  | transmitterHoldOffEnd p => exact absurd rfl (release p)
  | cellHeaderComplete p => exact absurd rfl (header p)
  | cellArrival p w => exact absurd rfl (arrival p w)
  | tickLineToggle l => cases l <;> exact whenAlive_held _ held
  | cellSendStart p => exact whenAlive_held (startSending p) held
  | cellSendEnd p => exact whenAlive_held (fun s => s.setPort p { s.port p with sending := none }) held
  | silenceExpiry n =>
    unfold exec execSilenceExpiry
    exact whenAlive_held _ held
  | _ => exact whenAlive_held _ held

/-- Settles O3: every other command acts under `whenAlive`. -/
theorem heldPartIgnoresCommands : Obligations.HeldPartIgnoresCommands := by
  intro s held
  refine ⟨fun c up lost low high hold release header arrival =>
    exec_held held up lost low high hold release header arrival, fun p => ?_, fun p w => ?_⟩
  · have dead : ¬ s.alive = true := by simp [held]
    change Host.Outcome.next (s.setPort p { s.port p with
      header := some (if s.alive then { pt := s.clock.pt, beforeStarting := false } else .discard) }) = _
    rw [if_neg dead]
    rfl
  · exact exec_cellArrival_discarded p w s (.inl held)

end Sys2Proof.Proofs
end

section
/-! PROOFS. The bytes of a cell (R23 to R28, R36 to R38): a sealed body is good, and a stamped mark shares its bytes
with the mark. -/

namespace Sys2Proof.Proofs

open Sys2Proof.Machine Sys2Proof.Laws

/-! ### Bytes at an offset -/

theorem byteAt_append_at (a : List Byte) (b : Byte) : byteAt (a ++ [b]) a.length = b := by simp [byteAt]

theorem byteAt_set (a : List Byte) (b : Byte) (j i : Nat) (h : j < a.length) :
    byteAt (a.set j b) i = if i = j then b else byteAt a i := by
  by_cases same : i = j
  · subst same; simp [byteAt, h]
  · simp [byteAt, same, Ne.symm same]

theorem field_append_left (a b : List Byte) (i w : Nat) (h : i + w ≤ a.length) : field (a ++ b) i w = field a i w := by
  unfold field
  rw [List.drop_append_of_le_length (by omega), List.take_append_of_le_length (by rw [List.length_drop]; omega)]

theorem field_append_at (a b c : List Byte) : field (a ++ (b ++ c)) a.length b.length = b := by simp [field]

/-- A body under its check is a cell with a good trailer (R28). -/
theorem crcGood_sealed (body : List Byte) : crcGood (body ++ [crc body]) = true := by simp [crcGood]

/-! ### Made cells (R36) -/

theorem byteOf_kind (kind : Nat) (h : kind < 16) :
    (byteOf (kind * 16)).toNat = kind * 16 ∧ (byteOf (kind * 16)).getLsbD 3 = false := by
  revert kind
  decide

theorem madeCell_good (dest origin : Byte) (kind sequence : Nat) (payload : List Byte) (code : kind < 16)
    (number : sequence < 256) (short : payload.length ≤ 56) : let w := madeCell dest origin kind sequence payload
    cellGood w = true ∧ cellKind w = kind ∧ cellStamped w = false ∧ cellPayload w = payload ∧
      w.length = 6 + payload.length ∧ byteAt w 0 = dest ∧ byteAt w 1 = origin ∧
      (byteAt w 2).toNat = kind * 16 ∧ (byteAt w 3).toNat = sequence ∧
      (byteAt w 4).toNat = payload.length ∧ byteAt w (5 + payload.length) = crc w.dropLast := by
  intro w
  let body := [dest, origin, byteOf (kind * 16), byteOf sequence, byteOf payload.length] ++ payload
  have sealed : w = body ++ [crc body] := rfl
  have size : body.length = 5 + payload.length := by simp only [body, List.length_append]; simp
  obtain ⟨kind_nat, unstamped⟩ := byteOf_kind kind code
  have lengthByte : (byteAt w 4).toNat = payload.length := Nat.mod_eq_of_lt (by omega)
  have stamped : cellStamped w = false := unstamped
  have length : cellLength w = payload.length := lengthByte
  have whole : w.length = 6 + payload.length := by rw [sealed, List.length_append, size]; simp; omega
  have good : lengthGood w = true := by simp [lengthGood, length, whole, stamped, short]
  refine ⟨by rw [cellGood, good, sealed, crcGood_sealed]; rfl, ?_, stamped, ?_, whole, rfl, rfl, kind_nat,
    Nat.mod_eq_of_lt number, lengthByte, ?_⟩
  · change (byteOf (kind * 16)).toNat / 16 = kind
    omega
  · rw [cellPayload, length]
    exact field_append_at [dest, origin, byteOf (kind * 16), byteOf sequence, byteOf payload.length] payload [crc body]
  · rw [sealed, ← size, byteAt_append_at, List.dropLast_concat]

/-! ### Stamped marks (R37) -/

/-- The body of a stamped mark: the mark but its trailer with the stamped flag set, and the stamp block. -/
def stampedBody (w : Cell) (block : List Byte) : List Byte := w.dropLast.set 2 (byteAt w 2 ||| 0x08#8) ++ block

/-- A good cell that is not stamped has its payload between five bytes and the trailer (R23). -/
theorem unstamped_length {w : Cell} (good : cellGood w = true) (unstamped : cellStamped w = false) :
    w.length = 6 + cellLength w ∧ cellLength w ≤ 56 := by
  simp only [cellGood, lengthGood, unstamped, Bool.and_eq_true, decide_eq_true_eq] at good
  obtain ⟨⟨⟨_, short⟩, length⟩, _⟩ := good
  exact ⟨by simpa using length, short⟩

section Stamped

variable {w : Cell} (block : List Byte) (good : cellGood w = true) (unstamped : cellStamped w = false)
include good unstamped

theorem marked_length : (w.dropLast.set 2 (byteAt w 2 ||| 0x08#8)).length = 5 + cellLength w := by
  have := (unstamped_length good unstamped).1
  simp
  omega

theorem byteAt_stampedCell (i : Nat) (inside : i < 5 + cellLength w) :
    byteAt (stampedCell w block) i = if i = 2 then byteAt w 2 ||| 8 else byteAt w i := by
  have marked := marked_length good unstamped
  have length := (unstamped_length good unstamped).1
  change byteAt (_ ++ block ++ [_]) i = _
  rw [List.append_assoc, byteAt_append_left _ _ _ (by omega), byteAt_set _ _ _ _ (by simp; omega),
    byteAt_dropLast _ _ (by omega)]
  rfl

theorem field_stampedCell : field (stampedCell w block) 5 (cellLength w) = cellPayload w := by
  have marked := marked_length good unstamped
  have length := (unstamped_length good unstamped).1
  have last : w = w.dropLast ++ [w.getLast (List.ne_nil_of_length_pos (by omega))] := (List.dropLast_concat_getLast _).symm
  change field (_ ++ block ++ [_]) 5 _ = _
  rw [List.append_assoc, field_append_left _ _ _ _ (by omega), cellPayload]
  have inside : 5 + cellLength w ≤ w.dropLast.length := by rw [List.length_dropLast]; omega
  rw [show field w 5 (cellLength w) = field w.dropLast 5 (cellLength w) from
    (congrArg (field · 5 (cellLength w)) last).trans (field_append_left _ _ _ _ inside)]
  unfold field
  rw [List.drop_set_of_lt (by decide)]

theorem stampedCell_length : (stampedCell w block).length = w.length + block.length := by
  have marked := marked_length good unstamped
  have length := (unstamped_length good unstamped).1
  change (_ ++ block ++ [_]).length = _
  simp only [List.length_append, marked, length, List.length_singleton]
  omega

theorem field_stampedCell_block : field (stampedCell w block) (5 + cellLength w) block.length = block := by
  rw [← marked_length good unstamped]
  change field (_ ++ block ++ [_]) _ _ = _
  rw [List.append_assoc]
  exact field_append_at _ block _

theorem byteAt_stampedCell_trailer :
    byteAt (stampedCell w block) (5 + cellLength w + block.length) = crc (stampedCell w block).dropLast := by
  have size : (stampedBody w block).length = 5 + cellLength w + block.length := by
    rw [stampedBody, List.length_append, marked_length good unstamped]
  change byteAt (stampedBody w block ++ [crc (stampedBody w block)]) _ = crc (_ ++ [_]).dropLast
  rw [← size, byteAt_append_at, List.dropLast_concat]
  rfl

end Stamped

theorem stampBlock_length (s : State) (x : Stamp) (slot : Byte) : (stampBlock s x slot).length = 12 := by
  simp [stampBlock, houseLabelBytes, labelBytes]

theorem stampedCell_good {w : Cell} {block : List Byte} (good : cellGood w = true) (unstamped : cellStamped w = false)
    (twelve : block.length = 12) : let v := stampedCell w block
    cellGood v = true ∧ cellStamped v = true ∧ cellPayload v = cellPayload w ∧
      cellKind v = cellKind w ∧ cellKey v = cellKey w ∧ cellDest v = cellDest w := by
  intro v
  obtain ⟨kind, stream, flag⟩ := stampedFlag_set (byteAt w 2) unstamped
  obtain ⟨length, short⟩ := unstamped_length good unstamped
  have at_ (i : Nat) (inside : i < 5) : byteAt v i = if i = 2 then byteAt w 2 ||| 8 else byteAt w i :=
    byteAt_stampedCell block good unstamped i (by omega)
  have stamped : cellStamped v = true := by rw [cellStamped, at_ 2 (by decide)]; exact flag
  have sameLength : cellLength v = cellLength w := by rw [cellLength, at_ 4 (by decide)]; rfl
  have lengths : lengthGood v = true := by
    have whole : v.length = w.length + 12 := twelve ▸ stampedCell_length block good unstamped
    simp [lengthGood, sameLength, stamped, short, whole, length]
  refine ⟨?_, stamped, ?_, ?_, ?_, ?_⟩
  · rw [cellGood, lengths]
    exact crcGood_sealed (stampedBody w block)
  · rw [cellPayload, sameLength]
    exact field_stampedCell block good unstamped
  · rw [cellKind, at_ 2 (by decide)]
    exact kind
  · rw [cellKey, at_ 1 (by decide), at_ 2 (by decide)]
    exact congrArg (Key.mk _) stream
  · rw [cellDest, at_ 0 (by decide)]
    rfl

theorem stampBlock_bytes (s : State) (x : Stamp) (slot : Byte) : stampBlock s x slot =
    let p := s.clock.params
    let l := labelOfIndex p ((s.settings.epochIndex + x.pt / 1000) % labelDay p)
    beBytes 6 x.pt ++ [byteOf l.hh, byteOf l.mm, byteOf l.ss, byteOf ((if p.dropFrame then 128 else 0) + l.ff),
      stampCode x.status, slot] := by
  simp [stampBlock, houseLabelBytes, labelBytes, houseLabel, houseIndex]

/-- Settles O21, from a sealed body's check and the bytes that a stamped mark shares with the mark. -/
theorem madeAndStampedCellsAreGood : Obligations.MadeAndStampedCellsAreGood := by
  refine ⟨fun dest origin kind sequence payload code number short =>
    madeCell_good dest origin kind sequence payload code number short, fun _ _ _ _ _ => rfl, ?_⟩
  intro s w x slot good unstamped
  have twelve := stampBlock_length s x slot
  obtain ⟨goodness, stamped, payload, kind, key, dest⟩ := stampedCell_good good unstamped twelve
  have at_ := byteAt_stampedCell (stampBlock s x slot) good unstamped
  have whole := stampedCell_length (stampBlock s x slot) good unstamped
  have block := field_stampedCell_block (stampBlock s x slot) good unstamped
  have trailer := byteAt_stampedCell_trailer (stampBlock s x slot) good unstamped
  have length := (unstamped_length good unstamped).1
  rw [twelve] at whole block trailer
  refine ⟨goodness, stamped, payload, kind, key, dest, at_ 2 (by omega), whole,
    fun i inside other => (at_ i inside).trans (if_neg other), ?_, ?_⟩
  · rw [block, stampBlock_bytes]
    cases x.status <;> rfl
  · rw [show w.length + 11 = 5 + cellLength w + 12 by omega]
    exact trailer

end Sys2Proof.Proofs
end

section
/-! PROOFS. The ports' commands and the arrival of a cell that is no mark for the part (R29 to R35, R37, R39, R40). -/

namespace Sys2Proof.Proofs

open Sys2Proof.Machine Sys2Proof.Laws

/-! ### Forwarding (R37, R40) -/

theorem forwardCell_room {p : Port} {w : Cell} {s : State} (room : s.hasRoom (otherPort p) = true) :
    forwardCell p w s = s.relayed p w := by
  rw [forwardCell, joinForwarded, if_pos room, relayed_eq]

theorem forwardCell_full {p : Port} {w : Cell} {s : State} (full : s.hasRoom (otherPort p) = false) :
    forwardCell p w s = raise .egressDrop (dropDetail (otherPort p) 0)
      (s.countAt (otherPort p) fun x => { x with overrun := bump x.overrun }) := by
  rw [forwardCell, joinForwarded, if_neg (by simp [full])]

theorem isOwn_iff (s : State) (dest : Nat) :
    isOwn s dest = true ↔ s.mgmt.device ≠ .boot ∧ s.mgmt.address = some dest := by
  simp [isOwn]

/-- A broadcast that the part takes: of RUN, HALT or CLOCK_APPLY, once it has an address (R33). -/
theorem takesBroadcast_iff (s : State) (w : Cell) : takesBroadcast s w = true ↔
    (s.mgmt.device = .configuring ∨ s.mgmt.device = .starting ∨ s.mgmt.device = .running) ∧
      2 ≤ (cellPayload w).length ∧ isBroadcastKind (byteAt (cellPayload w) 0).toNat = true := by
  unfold takesBroadcast
  cases s.mgmt.device <;> simp

theorem isBroadcastKind_iff (k : Nat) : isBroadcastKind k = true ↔ k = 5 ∨ k = 6 ∨ k = 7 := by
  simp [isBroadcastKind, or_assoc]

/-- A request that is not for the part is forwarded (R32, R33). -/
theorem routeRequest_passes {p : Port} {w : Cell} {s : State}
    (foreign : s.mgmt.device = .boot ∨ s.mgmt.address ≠ some (cellDest w))
    (untaken : s.mgmt.device = .boot ∨ s.mgmt.device = .addressing ∨ cellDest w ≠ 255 ∨
      (cellPayload w).length < 2 ∨ ∀ k ∈ [5, 6, 7], (byteAt (cellPayload w) 0).toNat ≠ k) :
    routeRequest p w s = forwardCell p w s := by
  have notOwn : ¬ isOwn s (cellDest w) = true := by rw [isOwn_iff]; tauto
  have notTaken : ¬ (cellDest w = 255 ∧ takesBroadcast s w = true) := by
    rw [takesBroadcast_iff, isBroadcastKind_iff]
    rintro ⟨dest, device, long, kind⟩
    obtain boot | addressing | other | short | none := untaken
    · simp [boot] at device
    · simp [addressing] at device
    · exact other dest
    · omega
    · simp at none
      omega
  rw [routeRequest, if_neg notOwn, if_neg notTaken]

/-- Settles O23: Table 2-6, row by row. -/
theorem passingCellIsForwardedUnchanged : Obligations.PassingCellIsForwardedUnchanged := by
  intro p w s f alive fresh good row
  have passes : routeCell p w (arrivalPt s p) (s.received p id) = forwardCell p w (s.received p f) := by
    unfold routeCell
    split at row
    · next none =>
      obtain ⟨rfl, request⟩ := row
      simp only [none]
      split
      · next kind =>
        obtain ⟨foreign, untaken⟩ := request kind
        exact routeRequest_passes (by simpa using foreign) (by simpa using untaken)
      · rfl
    · next need mark =>
      simp only [mark, routeMark, received_mgmt]
      split at row
      · next stamped => rw [if_pos stamped, row, received_countAt]; rfl
      · next unstamped =>
        rw [if_neg unstamped]
        split at row
        · next short => rw [if_pos short, row, received_countAt]; rfl
        · next long =>
          obtain ⟨rest, rfl⟩ := row
          rw [if_neg long, if_neg rest]
  rw [exec_cellArrival_good p w s alive fresh good, passes]
  exact ⟨fun room => by rw [forwardCell_room (by simpa using room)],
    fun full => by rw [forwardCell_full (by simpa using full)]⟩

/-! ### Requests for the part (R32, R33, R130, R173, R174) -/

theorem routeRequest_own {p : Port} {w : Cell} {s : State} (live : s.mgmt.device ≠ .boot)
    (own : s.mgmt.address = some (cellDest w)) : routeRequest p w (s.received p id) =
      handOver p w (s.received p fun x => { x with consumed := bump x.consumed }) := by
  have isOwn : isOwn (s.received p id) (cellDest w) = true := (isOwn_iff _ _).2 (by simp [live, own])
  rw [routeRequest, if_pos isOwn, received_countAt]
  rfl

theorem exec_arrival_request {p : Port} {w : Cell} {s : State} (alive : s.alive = true) (fresh : s.discards p = false)
    (good : cellGood w = true) (kind : cellKind w = 5) :
    exec (.cellArrival p w) s = .next (routeRequest p w (s.received p id)) := by
  rw [exec_cellArrival_good p w s alive fresh good, routeCell, kind]
  rfl

theorem handToLocate_eq (r : Request) (s : State) : handToLocate r s = match s.mgmt.device with
    | .configuring | .running =>
      if s.locate.queue.length < 8 then { s with locate := { s.locate with queue := s.locate.queue ++ [r] } }
      else joinReply r.port r.origin (replyPayload r .busy []) s
    | .starting => joinReply r.port r.origin (replyPayload r .busy []) s
    | .addressing | .boot => joinReply r.port r.origin (replyPayload r .state []) s := by
  unfold handToLocate
  cases s.mgmt.device <;> rfl

/-- Settles O24, by destination and kind. -/
theorem requestJoinsItsQueue : Obligations.RequestJoinsItsQueue := by
  intro p w s alive fresh good kind r s1
  rw [exec_arrival_request alive fresh good kind]
  have long (l : 2 ≤ (cellPayload w).length) : ¬ (cellPayload w).length < 2 := by omega
  refine ⟨fun live own short => ?_, fun live own l mgmt => ?_, fun live own l locate => ?_,
    fun device other dest l code => ?_⟩
  · rw [routeRequest_own live own, handOver, if_pos short]
  · rw [routeRequest_own live own, handOver, if_neg (long l)]
    change Host.Outcome.next (if isLocateKind r.kind = true then handToLocate r s1 else handToMgmt r s1) = _
    rw [if_neg (by simp [mgmt])]
    unfold handToMgmt
    simp only [s1, received_mgmt]
    rfl
  · rw [routeRequest_own live own, handOver, if_neg (long l)]
    change Host.Outcome.next (if isLocateKind r.kind = true then handToLocate r s1 else handToMgmt r s1) = _
    rw [if_pos locate, handToLocate_eq]
    simp only [s1, received_mgmt, received_locate]
    cases s.mgmt.device <;> rfl
  · have notOwn : ¬ isOwn (s.received p id) (cellDest w) = true := by
      rw [isOwn_iff, dest]
      simp [other]
    have taken : takesBroadcast (s.received p id) w = true :=
      (takesBroadcast_iff _ _).2 ⟨by simpa using device, l, (isBroadcastKind_iff _).2 code⟩
    rw [routeRequest, if_neg notOwn, if_pos ⟨dest, taken⟩, received_countAt]
    have handed : handToMgmt (requestOf p true w) (s.received p fun x =>
          { id x with broadcastTaken := bump (id x).broadcastTaken }) =
        let s2 := s.received p fun x => { x with broadcastTaken := bump x.broadcastTaken }
        if s.mgmt.inbox.length < 4 then { s2 with
          mgmt := { s2.mgmt with inbox := s.mgmt.inbox ++ [requestOf p true w] } } else s2 := by
      unfold handToMgmt
      simp only [received_mgmt]
      rfl
    intro s2 s3
    rw [handed]
    have room : s3.hasRoom (otherPort p) = s.hasRoom (otherPort p) := by
      simp only [s3]
      split
      · exact received_hasRoom s p (otherPort p) _
      · exact received_hasRoom s p (otherPort p) _
    cases full : s.hasRoom (otherPort p)
    · exact congrArg _ (forwardCell_full (room.trans full))
    · exact congrArg _ (forwardCell_room (room.trans full))

/-! ### The ports' commands (R29, R39) -/

/-- Settles O36, command by command. -/
theorem portCommandsMoveThePort : Obligations.PortCommandsMoveThePort := by
  intro p s x
  refine ⟨fun alive => ?_, fun h w alive header discarded => ?_, fun c rest alive queue idle free => ?_,
    fun alive none => ?_, fun alive => ?_, rfl, rfl⟩
  · change Host.Outcome.next (s.setPort p { x with
      header := some (if s.alive = true then { pt := s.clock.pt, beforeStarting := false } else .discard) }) = _
    rw [if_pos alive]
  · refine exec_cellArrival_discarded p w s (.inr ?_)
    change x.header.any HeaderTaken.discarded = true
    simpa [header] using discarded
  · change (if s.alive = true then Host.Outcome.next (startSending p s) else .next s) = _
    rw [if_pos alive, startSending]
    simp only [x] at queue idle free ⊢
    simp [queue, idle, free]
  · change (if s.alive = true then Host.Outcome.next (startSending p s) else .next s) = _
    rw [if_pos alive, startSending]
    split
    · next queue idle =>
      have held : (s.port p).heldOff = true := by simpa [x, queue, idle] using none
      rw [if_pos held]
    · rfl
    · rfl
  · exact if_pos alive

end Sys2Proof.Proofs
end

section
/-! PROOFS. Marks in a run (R82 to R95, R108 to R116, R119, R120): each path through the Tracking Unit is one equation
of `pace`, and every anchor change is `anchoredAt`. -/

namespace Sys2Proof.Proofs

open Sys2Proof.Machine Sys2Proof.Laws

/-! ### Re-anchors (R120, R125) -/

theorem arrivalAnchorPt_of_work {c : Context} {w : SourceEntry} (work : c.work = some w) (arrival : Nat) :
    arrivalAnchorPt c arrival = (max 0 (min ((arrival : Int) - (w.latency + c.adjust)) Config.maxPt)).toNat := by
  rw [arrivalAnchorPt, Context.effective, entry_of_work work]
  rfl

/-- A re-anchor at arrival ends the segment, if there is one, and anchors (R120, R125, R126). -/
theorem reanchorAtArrival_eq (slot : Fin 128) (reason : AnchorReason) (count arrival : Nat) (s : State) {c : Context}
    {w : SourceEntry} (work : c.work = some w) : reanchorAtArrival slot reason count arrival (s.setCtx slot c) =
      (s.segmentEnded c ⟨c.lastCount, c.lastConverted⟩).anchoredAt slot { c with
        lastCount := count, lastArrival := arrival, lastConverted := arrivalAnchorPt c arrival
        windowCount := 0, windowSum := 0, silence := w.silenceLimit } w reason count (arrivalAnchorPt c arrival) := by
  unfold reanchorAtArrival
  simp only [setCtx_ctx_same, setCtx_setCtx, entry_of_work work]
  rw [anchorChange_eq _ _ _ _ _ _ _ w (by exact work)]
  cases anchor : c.anchor with
  | none => simp [State.segmentEnded, anchor]
  | some a => simp [State.segmentEnded, anchor]

theorem anchoredPace_eq (slot : Fin 128) (reason : AnchorReason) (count arrival : Nat) (s : State) {c : Context}
    {w : SourceEntry} (work : c.work = some w) : anchoredPace slot reason count arrival (s.setCtx slot c) =
      ⟨(s.segmentEnded c ⟨c.lastCount, c.lastConverted⟩).anchoredAt slot { c with
          lastCount := count, lastArrival := arrival, lastConverted := arrivalAnchorPt c arrival
          windowCount := 0, windowSum := 0, silence := w.silenceLimit } w reason count (arrivalAnchorPt c arrival),
        ⟨arrivalAnchorPt c arrival, if s.clock.pt = Config.maxPt then .clamped else .anchored⟩⟩ := by
  unfold anchoredPace
  rw [reanchorAtArrival_eq slot reason count arrival s work]
  simp only [setCtx_ctx_same, ptHeld, setCtx_clock, beq_iff_eq]

theorem segmentEnded_none {s : State} {c : Context} (e : SegmentEnd) (none : c.anchor = none) :
    s.segmentEnded c e = s := by
  simp [State.segmentEnded, none]

/-! ### The paths of a PACE mark (R87, R108 to R113, R119) -/

section Pace

variable {slot : Fin 128} {count arrival : Nat} {s : State} {w : SourceEntry} {a : Anchor}

theorem pace_first (state : (s.ctx slot).state ≠ .lost) (none : (s.ctx slot).anchor = none) :
    pace slot count arrival s = anchoredPace slot .opened count arrival
      (s.setCtx slot { s.ctx slot with marks := bump (s.ctx slot).marks }) := by
  simp [pace, state, none]

theorem pace_lost (state : (s.ctx slot).state = .lost) :
    pace slot count arrival s = anchoredPace slot .resume count arrival
      (s.setCtx slot { s.ctx slot with marks := bump (s.ctx slot).marks, state := .acquiring }) := by
  simp [pace, state]

theorem pace_cadence (state : (s.ctx slot).state ≠ .lost) (anchor : (s.ctx slot).anchor = some a) :
    pace slot count arrival s = cadencePace slot a count arrival
      (s.setCtx slot { s.ctx slot with marks := bump (s.ctx slot).marks }) := by
  simp [pace, state, anchor]

theorem pace_duplicate (state : (s.ctx slot).state ≠ .lost) (anchor : (s.ctx slot).anchor = some a)
    (same : countDiff count (s.ctx slot).lastCount = 0) : pace slot count arrival s =
      ⟨s.setCtx slot { s.ctx slot with
          marks := bump (s.ctx slot).marks, duplicates := bump (s.ctx slot).duplicates },
        convertedStamp (contextForward s (s.ctx slot) a count) .duplicate⟩ := by
  rw [pace_cadence state anchor, cadencePace]
  simp only [setCtx_ctx_same, setCtx_setCtx, same, if_true]
  rfl

theorem pace_normal {j : Nat} (state : (s.ctx slot).state ≠ .lost) (anchor : (s.ctx slot).anchor = some a)
    (moved : countDiff count (s.ctx slot).lastCount ≠ 0)
    (strides : stridesOf (s.ctx slot).entry (countDiff count (s.ctx slot).lastCount) = some j) :
    pace slot count arrival s = normalPace slot a count arrival (s.setCtx slot { s.ctx slot with
      marks := bump (s.ctx slot).marks, missed := min ((s.ctx slot).missed + (j - 1)) Config.maxCounter }) := by
  rw [pace_cadence state anchor, cadencePace]
  simp only [setCtx_ctx_same, setCtx_setCtx, moved, if_false]
  change (match stridesOf (s.ctx slot).entry _ with | some _ => _ | none => _) = _
  rw [strides]

theorem pace_jump (state : (s.ctx slot).state ≠ .lost) (anchor : (s.ctx slot).anchor = some a)
    (moved : countDiff count (s.ctx slot).lastCount ≠ 0)
    (strides : stridesOf (s.ctx slot).entry (countDiff count (s.ctx slot).lastCount) = none) :
    pace slot count arrival s = jumpPace slot count arrival (countDiff count (s.ctx slot).lastCount)
      (s.setCtx slot { s.ctx slot with marks := bump (s.ctx slot).marks }) := by
  rw [pace_cadence state anchor, cadencePace]
  simp only [setCtx_ctx_same, moved, if_false]
  change (match stridesOf (s.ctx slot).entry _ with | some _ => _ | none => _) = _
  rw [strides]

theorem markError_of_work {c : Context} (work : c.work = some w) (converted : Nat) :
    markError c converted arrival = (converted : Int) - (arrival - (w.latency + c.adjust)) := by
  rw [markError, Context.effective, entry_of_work work]

end Pace

/-- A normal mark is measured under the anchor before (R111, R113). -/
theorem normalPace_eq (slot : Fin 128) (a : Anchor) (count arrival : Nat) (s : State) {c : Context} {w : SourceEntry}
    (work : c.work = some w) : normalPace slot a count arrival (s.setCtx slot c) =
      let v := contextForward s c a count
      let e : Int := (v.value : Int) - (arrival - (w.latency + c.adjust))
      if (w.slipTol : Int) < |e| then slipPace slot count arrival e (s.setCtx slot c)
      else absorbPace slot count arrival v (s.setCtx slot c) := by
  unfold normalPace
  simp only [setCtx_ctx_same, entry_of_work work, markError_of_work work]
  rfl

theorem absorbPace_eq (slot : Fin 128) (count arrival : Nat) (v : Converted) (s : State) {c : Context} {w : SourceEntry}
    (work : c.work = some w) : absorbPace slot count arrival v (s.setCtx slot c) =
      let absorbed := s.setCtx slot { c with
        windowSum := c.windowSum + ((v.value : Int) - (arrival - (w.latency + c.adjust)))
        windowCount := c.windowCount + 1, lastCount := count, lastArrival := arrival, lastConverted := v.value
        silence := w.silenceLimit }
      ⟨if w.window ≤ c.windowCount + 1 then windowClose slot count v.value absorbed else absorbed,
        convertedStamp v (fittingStatus c.state)⟩ := by
  unfold absorbPace
  simp only [setCtx_ctx_same, setCtx_setCtx, entry_of_work work, markError_of_work work]

theorem fittingStatus_eq {st : ContextState} (fits : st = .acquiring ∨ st = .locked ∨ st = .drifting) :
    fittingStatus st = if st = .locked then .locked else .tracking := by
  obtain rfl | rfl | rfl := fits <;> rfl

theorem not_lost {st : ContextState} (fits : st = .acquiring ∨ st = .locked ∨ st = .drifting) : st ≠ .lost := by
  obtain rfl | rfl | rfl := fits <;> simp

/-- Settles O27, from the first mark's and the resuming mark's path. -/
theorem paceMarkAnchorsAtArrival : Obligations.PaceMarkAnchorsAtArrival := by
  intro slot count arrival s w c pt0 marked stamp work
  refine ⟨fun state none => ?_, fun state _ => ?_⟩
  · have live : (s.ctx slot).state ≠ .lost := by simp [c] at state; simp [state]
    rw [pace_first live none, anchoredPace_eq slot .opened count arrival s (w := w) (by exact work),
      arrivalAnchorPt_of_work (w := w) (by exact work), segmentEnded_none _ (by exact none)]
  · rw [pace_lost state, anchoredPace_eq (w := w), arrivalAnchorPt_of_work (w := w)]
    · rfl
    all_goals exact work

/-- Settles O28: the mark is measured under the anchor before, and the window closes on what it leaves. -/
theorem normalPaceIsAbsorbed : Obligations.NormalPaceIsAbsorbed := by
  intro slot count arrival j s w a c v e work anchor state one limit stride strides small absorbed
  obtain ⟨found, moved⟩ := stridesOf_eq w _ j stride one limit strides
  have found' : stridesOf c.entry (countDiff count c.lastCount) = some j := by rw [entry_of_work work]; exact found
  have fits : ¬ (w.slipTol : Int) < |e| := by omega
  rw [pace_normal (not_lost state) anchor moved found', normalPace_eq (w := w)]
  · change (if (w.slipTol : Int) < |e| then _ else _) = _
    rw [if_neg fits, absorbPace_eq (w := w)]
    · change Tracked.mk _ (convertedStamp v (fittingStatus c.state)) = _
      rw [fittingStatus_eq state]
      rfl
    · exact work
  · exact work

/-- Settles O29, the jump by its count difference and the slip by its error. -/
theorem jumpAndSlipReanchorAndRaise : Obligations.JumpAndSlipReanchorAndRaise := by
  intro slot count arrival s w a c d v e pt0 stamp marked reanchored work anchor state stride
  refine ⟨fun moved none => ?_, fun j one limit strides large => ?_⟩
  · have found : stridesOf c.entry d = .none := by
      rw [entry_of_work work]
      exact stridesOf_none w d stride none
    rw [pace_jump (not_lost state) anchor moved found, jumpPace]
    simp only [setCtx_ctx_same, setCtx_setCtx]
    rw [anchoredPace_eq slot .jump count arrival s (w := w) (by exact work),
      arrivalAnchorPt_of_work (w := w) (by exact work)]
    rfl
  · obtain ⟨found, moved⟩ := stridesOf_eq w d j stride one limit strides
    have found' : stridesOf c.entry d = some j := by rw [entry_of_work work]; exact found
    rw [pace_normal (not_lost state) anchor moved found', normalPace_eq (w := w)]
    · change (if (w.slipTol : Int) < |e| then slipPace slot count arrival e _ else _) = _
      rw [if_pos large, slipPace]
      simp only [setCtx_ctx_same, setCtx_setCtx]
      rw [anchoredPace_eq (w := w), arrivalAnchorPt_of_work (w := w)]
      · rfl
      all_goals exact work
    · exact work

theorem windowState_eq {st : ContextState} (fits : st = .acquiring ∨ st = .locked ∨ st = .drifting) (within : Bool) :
    windowState st within = if within then .locked else if st = .acquiring then .acquiring else .drifting := by
  cases within <;> obtain rfl | rfl | rfl := fits <;> rfl

/-- Settles O30: the trim, then the anchor change over the context it leaves. -/
theorem windowCloseCorrectsTrimAndAnchor : Obligations.WindowCloseCorrectsTrimAndAnchor := by
  intro slot count converted s w a c mean open_ trim pt0 s1 work anchor state
  unfold windowClose
  simp only [windowMean, unclampedTrim, clampTrim]
  rw [windowState_eq (st := (s.ctx slot).state) state, anchorChange_eq _ _ _ _ _ _ _ w (by exact work)]
  have entry : (s.ctx slot).entry = w := entry_of_work work
  simp only [entry, decide_eq_true_eq]
  rfl

end Sys2Proof.Proofs
end

section
/-! PROOFS. Marks that reach the Stamping Unit (R82 to R86, R90 to R95). -/

namespace Sys2Proof.Proofs

open Sys2Proof.Machine Sys2Proof.Laws

/-- A stamp block depends on the captured clock and epoch alone (R95). -/
theorem stampBlock_congr {s t : State} (clock : t.clock = s.clock) (settings : t.settings = s.settings) (x : Stamp)
    (slot : Byte) : stampBlock t x slot = stampBlock s x slot := by
  unfold stampBlock houseLabelBytes houseLabel houseIndex
  rw [clock, settings]

theorem stampMark_unmapped {p : Port} {w : Cell} {a : Nat} {s : State} (absent : s.lookup (cellKey w) = none) :
    stampMark p w a s = emitStamped p w ⟨a, .unmapped⟩ 255
      (raise .unmappedSource (keyBytes (cellKey w) ++ [portCode p]) s) := by
  simp [stampMark, absent]

theorem stampMark_mapped {p : Port} {w : Cell} {a : Nat} {s : State} {slot : Fin 128}
    (mapped : s.lookup (cellKey w) = some slot) : stampMark p w a s =
      let v := handleMapped w slot a s
      emitStamped p w v.stamp (byteOf slot) v.state := by
  simp [stampMark, mapped]

theorem handleMapped_open {w : Cell} {a : Nat} {s : State} {slot : Fin 128} (isOpen : (s.ctx slot).state ≠ .closed) :
    handleMapped w slot a s = handleOpen w slot a s := by
  rw [handleMapped, if_pos ((isOpen_iff _).2 isOpen)]

theorem handleMapped_closed {w : Cell} {a : Nat} {s : State} {slot : Fin 128} (closed : (s.ctx slot).state = .closed)
    (stays : ∀ e, s.sourceAt slot = some e → e.damaged = true ∨ e.content.autoOpen = false) :
    handleMapped w slot a s = ⟨s, ⟨a, .closed⟩⟩ := by
  have none : autoOpens s slot = none := by
    unfold autoOpens validSource validContent
    cases entry : s.sourceAt slot with
    | none => rfl
    | some e =>
      obtain damaged | manual := stays e entry
      · simp [damaged]
      · by_cases damaged : e.damaged = true <;> simp [damaged, manual]
  simp [handleMapped, isOpen_iff, closed, none]

theorem handleMapped_opens {w : Cell} {a : Nat} {s : State} {slot : Fin 128} {e : Stored SourceEntry}
    (closed : (s.ctx slot).state = .closed) (entry : s.sourceAt slot = some e) (valid : e.damaged = false)
    (auto : e.content.autoOpen = true) :
    handleMapped w slot a s = handleOpen w slot a (s.setCtx slot ((s.ctx slot).openedWith e.content)) := by
  have opens : autoOpens s slot = some e.content := by
    simp [autoOpens, validSource, validContent, entry, valid, auto]
  have shut : ¬ (s.ctx slot).isOpen = true := by simp [isOpen_iff, closed]
  rw [handleMapped, if_neg shut, opens]
  rfl

/-- The stamp of an event mark: converted under the anchor, or as an anchor at its arrival would stamp it (R91, R92). -/
theorem eventStamp_some {s : State} {c : Context} {b : Anchor} (count a : Nat) (anchor : c.anchor = some b) :
    let v := forward (contextConversion s c b) (ptHeld s) count
    eventStamp s c count a = ⟨v.value, if v.clamped then .clamped else if c.state = .locked then .locked
      else if c.state = .lost then .stale else .tracking⟩ := by
  have status : fittingStatus c.state =
      if c.state = .locked then .locked else if c.state = .lost then .stale else .tracking := by
    cases c.state <;> rfl
  simp only [eventStamp, anchor, convertedStamp, status]
  rfl

theorem eventStamp_none {s : State} {c : Context} (count a : Nat) (none : c.anchor = none) :
    eventStamp s c count a = ⟨c.anchorPtAt a, .tracking⟩ := by
  simp only [eventStamp, none]
  rfl

/-- Settles O25, by the lookup, the context and the kind. -/
theorem arrivingMarkIsStamped : Obligations.ArrivingMarkIsStamped := by
  intro p w s reaches a s1 stamped handled
  have arrival : arrivalPt s p = a := by
    unfold arrivalPt
    cases h : (s.port p).header <;> simp only [a, h]
  have handles (slot : Fin 128) (t : State) : handleOpen w slot a t = handled slot t := by
    unfold handleOpen
    split
    · next pace => simp only [handled, if_pos pace]; rfl
    · next event =>
      cases anchor : (t.ctx slot).anchor with
      | none =>
        simp only [eventStamp_none _ _ anchor, handled, if_neg event, anchor]
        rfl
      | some b =>
        simp only [eventStamp_some _ _ anchor, handled, if_neg event, anchor]
        rfl
  rw [exec_cellArrival_mark p w s reaches, arrival]
  refine ⟨fun absent => ?_, fun slot mapped closed stays => ?_, fun slot e mapped closed entry valid auto => ?_,
    fun slot mapped isOpen => ?_⟩
  · rw [stampMark_unmapped (by simpa using absent)]
    rfl
  · rw [stampMark_mapped (slot := slot) (by simpa using mapped),
      handleMapped_closed (by simpa using closed) (by simpa using stays)]
    rfl
  · rw [stampMark_mapped (slot := slot) (by simpa using mapped),
      handleMapped_opens (e := e) (by simpa using closed) (by simpa using entry) valid auto, handles, received_ctx]
    rfl
  · rw [stampMark_mapped (slot := slot) (by simpa using mapped), handleMapped_open (by simpa using isOpen), handles]
    rfl

/-- Settles O26, the duplicate's path of `pace`. -/
theorem duplicatePaceIsOnlyCounted : Obligations.DuplicatePaceIsOnlyCounted := by
  intro p w s slot a reaches kind mapped isOpen live anchor same v x
  have paced : handleOpen w slot (arrivalPt s p) (s.received p id) =
      ⟨(s.received p id).setCtx slot { s.ctx slot with
        marks := bump (s.ctx slot).marks, duplicates := bump (s.ctx slot).duplicates }, x⟩ := by
    rw [handleOpen, if_pos kind, pace_duplicate (a := a) (by simpa using live) (by simpa using anchor)
      (by simpa using same)]
    cases p <;> rfl
  rw [exec_cellArrival_mark p w s reaches, stampMark_mapped (slot := slot) (by simpa using mapped),
    handleMapped_open (by simpa using isOpen), paced]
  dsimp only [emitStamped]
  rw [stampBlock_congr (s := s) (by simp) (by simp)]

end Sys2Proof.Proofs
end

section
/-! PROOFS. The Pairing Unit (R144 to R164): which marks take part, the nearest candidate, the take that a clap makes,
and what a pairing resolves. -/

namespace Sys2Proof.Proofs

open Sys2Proof.Machine Sys2Proof.Laws

/-! ### The nearest of the items that fit (R153, R154) -/

/-- Of the items that fit, the nearest, and the oldest of equals. -/
theorem nearest_filter {α : Type} (dist : α → Nat) (fits : α → Bool) {before after : List α} {c : α}
    (own : fits c = true) (near : ∀ d ∈ before, fits d = true → dist c < dist d)
    (far : ∀ d ∈ after, fits d = true → dist c ≤ dist d) :
    nearest dist ((before ++ c :: after).filter fits) = some c := by
  rw [List.filter_append, List.filter_cons_of_pos own]
  refine nearest_split dist _ _ c (fun d hd => ?_) (fun d hd => ?_)
  · obtain ⟨mem, fit⟩ := List.mem_filter.1 hd
    exact near d mem fit
  · obtain ⟨mem, fit⟩ := List.mem_filter.1 hd
    exact far d mem fit

theorem deadlineOf_eq {s : State} {g : Nat} {e : Stored GroupEntry} (group : s.groupAt g = some e) (pt : Nat) :
    deadlineOf s g pt = min (pt + e.content.pairingWindow) Config.maxPt := by
  simp [deadlineOf, pairingWindow, group]

/-! ### Admission (R144, R145, R149) -/

theorem handleClap_ignored {m : ClapMark} {s : State}
    (out : (s.ctx m.slot).entry.cls ≠ .slate ∨ s.groupAt (s.ctx m.slot).entry.group = none) :
    handleClap m s = s := by
  unfold handleClap
  dsimp only
  split
  · next slate =>
    have none : s.groupAt (s.ctx m.slot).entry.group = none := out.resolve_left (not_not_intro slate)
    rw [none]
  · rfl

theorem handleClap_taken {m : ClapMark} {s : State} {e : Stored GroupEntry}
    (slate : (s.ctx m.slot).entry.cls = .slate) (group : s.groupAt (s.ctx m.slot).entry.group = some e) :
    handleClap m s = clapTake m (s.ctx m.slot).entry.group e s := by
  unfold handleClap
  dsimp only
  rw [if_pos slate, group]

theorem handleTransient_ignored {slot : Fin 128} {count pt : Nat} {s : State}
    (out : (s.ctx slot).entry.cls ≠ .recorder ∨ s.groupAt (s.ctx slot).entry.group = none ∨
      ∃ e, s.groupAt (s.ctx slot).entry.group = some e ∧ e.damaged = true) :
    handleTransient slot count pt s = s := by
  refine if_neg ?_
  rintro ⟨recorder, valid⟩
  obtain other | none | ⟨e, group, damaged⟩ := out
  · exact other recorder
  · simp [none, validContent] at valid
  · simp [group, validContent, damaged] at valid

theorem handleTransient_valid {slot : Fin 128} {count pt : Nat} {s : State} {e : Stored GroupEntry}
    (recorder : (s.ctx slot).entry.cls = .recorder) (group : s.groupAt (s.ctx slot).entry.group = some e)
    (valid : e.damaged = false) : handleTransient slot count pt s =
      match nearest (fun c => ptDistance c.clapPt pt) (clapCandidates s (s.ctx slot).entry.group slot pt) with
      | some c =>
        match s.takeNumbered c.take with
        | some t => pairRow t slot count pt s
        | none => s
      | none => holdTransient ⟨slot, (s.ctx slot).entry.group, count, pt,
          deadlineOf s (s.ctx slot).entry.group pt⟩ s := by
  refine (if_pos ⟨recorder, by simp [group, validContent, valid]⟩).trans ?_
  rfl

theorem holdTransient_past {h : HeldTransient} {s : State} (past : h.deadline ≤ s.clock.pt) :
    holdTransient h s = raise .transientUnpaired ([byteOf h.slot] ++ beBytes 6 h.pt ++ [1]) s :=
  if_pos past

theorem holdTransient_room {h : HeldTransient} {s : State} (waits : s.clock.pt < h.deadline)
    (room : s.pairing.held.length < 16) :
    holdTransient h s = { s with pairing := { s.pairing with held := s.pairing.held ++ [h] } } := by
  rw [holdTransient, if_neg (by omega), if_pos room]
  rfl

theorem holdTransient_full {h x : HeldTransient} {rest : List HeldTransient} {s : State}
    (waits : s.clock.pt < h.deadline) (held : s.pairing.held = x :: rest) (full : rest.length = 15) :
    holdTransient h s =
      let s1 := raise .transientUnpaired ([byteOf x.slot] ++ beBytes 6 x.pt ++ [0])
        { s with pairing := { s.pairing with held := rest } }
      { s1 with pairing := { s1.pairing with held := rest ++ [h] } } := by
  rw [holdTransient, if_neg (by omega), if_neg (by simp [held, full]), held]
  simp only [State.setPairing, transientDetail, raise_pairing]

/-- Settles O31, by admission, candidates and room. -/
theorem pairingAdmitsAndHolds : Obligations.PairingAdmitsAndHolds := by
  refine ⟨fun m s => ⟨handleClap_ignored, fun e slate group full keep => ?_⟩, fun slot count pt s => ?_⟩
  · rw [handleClap_taken slate group]
    exact if_pos (by simp [tableFull, full, keep])
  · intro w
    refine ⟨handleTransient_ignored, fun e recorder group valid => ?_⟩
    intro fits
    have candidates := clapCandidates_eq s w.group slot pt e group
    rw [handleTransient_valid recorder group valid, candidates]
    refine ⟨fun before c after t claps own near far take => ?_, fun none => ?_⟩
    · simp only [ptGap_eq] at near far
      rw [claps, nearest_filter _ _ (by simpa using own) (fun d mem fit => near d mem (by simpa using fit))
        fun d mem fit => far d mem (by simpa using fit)]
      simp only [take]
    · intro h
      have empty : (s.pairing.claps.filter fun c =>
          @decide _ (Classical.propDecidable (ClapFits s w.group e.content.pairingWindow slot pt c))) = [] := by
        rw [List.filter_eq_nil_iff]
        exact fun c mem => by simpa using none c mem
      have deadline : deadlineOf s w.group pt = h.deadline := deadlineOf_eq group pt
      rw [empty]
      simp only [nearest]
      rw [deadline]
      exact ⟨holdTransient_past, holdTransient_room, fun x rest => holdTransient_full⟩

end Sys2Proof.Proofs
end

section
/-! PROOFS. The take that a clap makes (R148 to R153, R163), what a pairing resolves (R156 to R158), and what the
deadlines end (R117, R159 to R161). -/

namespace Sys2Proof.Proofs

open Sys2Proof.Machine Sys2Proof.Laws

/-! ### Making a take -/

theorem followingTake_eq (n : Nat) : followingTake n = if n < 65535 then n + 1 else 1 := by
  unfold followingTake
  split_ifs <;> omega

theorem clapTake_room {m : ClapMark} {g : Nat} {e : Stored GroupEntry} {s : State}
    (room : s.pairing.takes.length < 64) :
    clapTake m g e s = if e.damaged then makeDamagedTake m g s else makeTake m g e.content s := by
  have notFull : tableFull s = false := by simpa [tableFull] using room
  simp [clapTake, notFull]

theorem rowOf_pending (s : State) (pt : Nat) (i : Fin 128) :
    (s.rowOf pt i).isPending = true ↔ (s.ctx i).entry.cls = .recorder := by
  rw [← rowFor_eq]
  simp [rowFor, TakeRow.isPending]

theorem rows_pending (s : State) (pt : Nat) (l : List (Fin 128)) :
    (l.map (s.rowOf pt)).any TakeRow.isPending = true ↔ ∃ i ∈ l, (s.ctx i).entry.cls = .recorder := by
  simp [rowOf_pending]

theorem rows_slots (s : State) (pt : Nat) (l : List (Fin 128)) : (l.map (s.rowOf pt)).map TakeRow.slot = l := by
  rw [List.map_map]
  exact List.map_id l

@[simp] theorem raise_groupAt (c : EventClass) (d : List Byte) (s : State) (g : Nat) :
    (raise c d s).groupAt g = s.groupAt g := by simp [State.groupAt]

@[simp] theorem clapEnded_nextTake (s : State) (n : Nat) : (s.clapEnded n).pairing.nextTake = s.pairing.nextTake := by
  simp [State.clapEnded]

theorem addTake_eq (t : Take) (s : State) : addTake t s = { s with pairing := { s.pairing with
    takes := s.pairing.takes ++ [t]
    nextTake := if s.pairing.nextTake < 65535 then s.pairing.nextTake + 1 else 1 } } := by
  rw [addTake, followingTake_eq]
  rfl

/-- A pending clap joins, the oldest of a full list ended first (R152). -/
theorem addClap_eq (c : PendingClap) (s : State) : addClap c s =
    let s1 := match s.pairing.claps with
      | [] => s
      | x :: _ => if s.pairing.claps.length < 8 then s else s.clapEnded x.take
    { s1 with pairing := { s1.pairing with claps := s1.pairing.claps ++ [c] } } := by
  unfold addClap
  cases claps : s.pairing.claps with
  | nil => rfl
  | cons x rest =>
    simp only [endClap_eq]
    rfl

/-- SLATE_OFF raised for a clap of a VALID group, if its label is invalid or beyond the tolerance (R151). -/
def slateChecked (m : ClapMark) (e : GroupEntry) (s : State) : State :=
  let diff := s.labelOff m.label m.pt
  if diff.all fun d => decide ((e.labelTol : Int) < |d|) then
    raise .slateOff (slateOffDetail s.pairing.nextTake m.slot diff) s
  else s

theorem slateChecked_pairing (m : ClapMark) (e : GroupEntry) (s : State) : (slateChecked m e s).pairing = s.pairing := by
  unfold slateChecked
  dsimp only
  split <;> simp

theorem slateChecked_groupAt (m : ClapMark) (e : GroupEntry) (s : State) (g : Nat) :
    (slateChecked m e s).groupAt g = s.groupAt g := by
  unfold slateChecked
  dsimp only
  split <;> simp

/-- The slots of a take's rows: the first eight rolling members (R150). -/
def rowSlots (m : ClapMark) (g : Nat) (e : GroupEntry) (s : State) : List (Fin 128) :=
  ((List.finRange 128).filter fun i => decide (s.Rolling g e.rollingLimit m i)).take 8

/-- The take of a clap of a VALID group (R150, R151). -/
def takeOf (m : ClapMark) (g : Nat) (e : GroupEntry) (isOpen : Bool) (s : State) : Take :=
  { number := s.pairing.nextTake, scene := m.scene, codeNumber := m.codeNumber, group := g, slate := m.slot
    clapPt := m.pt, labelDiff := s.labelOff m.label m.pt, isOpen := isOpen
    omitted := ((List.finRange 128).filter fun i => decide (s.Rolling g e.rollingLimit m i)).length - 8
    rows := (rowSlots m g e s).map (s.rowOf m.pt) }

/-- A clap of a VALID group, spelled out (R150 to R153). -/
theorem makeTake_eq (m : ClapMark) (g : Nat) (e : GroupEntry) (s : State) : makeTake m g e s =
    let isOpen := ((rowSlots m g e s).map (s.rowOf m.pt)).any TakeRow.isPending
    let s1 := slateChecked m e s
    if isOpen then
      endIfPast s.pairing.nextTake ((rowSlots m g e s).foldl (fun u i => visitRow s.pairing.nextTake i u)
        (addTake (takeOf m g e isOpen s)
          (addClap ⟨s.pairing.nextTake, g, m.pt, deadlineOf s1 g m.pt⟩ s1)))
    else addTake (takeOf m g e isOpen s) s1 := by
  unfold makeTake slateChecked takeOf rowSlots
  have rowFor_rowOf : rowFor s m.pt = s.rowOf m.pt := funext fun i => rowFor_eq s m.pt i
  simp only [rollingMembers_eq, labelDifference_eq, rowFor_rowOf, rows_slots]
  cases s.labelOff m.label m.pt <;> rfl

theorem makeTake_closed {m : ClapMark} {g : Nat} {e : GroupEntry} {s : State}
    (none : ∀ i ∈ rowSlots m g e s, (s.ctx i).entry.cls ≠ .recorder) :
    makeTake m g e s = addTake (takeOf m g e false s) (slateChecked m e s) := by
  have closed : ((rowSlots m g e s).map (s.rowOf m.pt)).any TakeRow.isPending = false := by
    rw [← Bool.not_eq_true, rows_pending]
    simpa using none
  rw [makeTake_eq]
  simp only [closed]
  rfl

theorem makeTake_open {m : ClapMark} {g : Nat} {e : Stored GroupEntry} {s : State} (group : s.groupAt g = some e)
    (some : ∃ i ∈ rowSlots m g e.content s, (s.ctx i).entry.cls = .recorder) :
    makeTake m g e.content s = endIfPast s.pairing.nextTake
      ((rowSlots m g e.content s).foldl (fun u i => visitRow s.pairing.nextTake i u)
        (addTake (takeOf m g e.content true s)
          (addClap ⟨s.pairing.nextTake, g, m.pt, min (m.pt + e.content.pairingWindow) Config.maxPt⟩
            (slateChecked m e.content s)))) := by
  rw [makeTake_eq]
  simp only [(rows_pending s m.pt _).2 some]
  rw [deadlineOf_eq ((slateChecked_groupAt ..).trans group)]
  rfl

theorem makeDamagedTake_eq (m : ClapMark) (g : Nat) (s : State) : makeDamagedTake m g s =
    let n := s.pairing.nextTake
    let diff := s.labelOff m.label m.pt
    addTake { number := n, scene := m.scene, codeNumber := m.codeNumber, group := g, slate := m.slot
              clapPt := m.pt, labelDiff := diff, isOpen := false, omitted := 0, rows := [] }
      (if diff = none then raise .slateOff (slateOffDetail n m.slot diff) s else s) := by
  unfold makeDamagedTake
  simp only [labelDifference_eq]
  cases s.labelOff m.label m.pt <;> rfl

/-! ### The rows of a new take and its deadline (R153) -/

/-- The oldest item of those equal to it leaves a list, the others keeping their order. -/
theorem erase_split {α : Type} [BEq α] [LawfulBEq α] {before after : List α} {x : α} (new : x ∉ before) :
    (before ++ x :: after).erase x = before ++ after := by
  rw [List.erase_append_right _ new, List.erase_cons_head]

theorem visitRow_none {n : Nat} {slot : Fin 128} {s : State} {t : Take} {e : Stored GroupEntry}
    (take : s.takeNumbered n = some t) (group : s.groupAt t.group = some e)
    (out : (∀ r ∈ t.rows, r.slot = slot → r.status ≠ .pending) ∨
      ∀ h ∈ s.pairing.held, ¬ HeldFits t e.content.pairingWindow slot h) : visitRow n slot s = s := by
  unfold visitRow
  rw [take]
  dsimp only
  split
  · next waits =>
    obtain resolved | none := out
    · obtain ⟨r, mem, same⟩ := List.any_eq_true.1 waits
      simp only [TakeRow.isPending, Bool.and_eq_true, beq_iff_eq] at same
      exact absurd same.2 (resolved r mem same.1)
    · rw [heldCandidates_eq s t slot e group, List.filter_eq_nil_iff.2 fun h mem => by simpa using none h mem]
      rfl
  · rfl

theorem visitRow_pairs {n : Nat} {slot : Fin 128} {s : State} {t : Take} {e : Stored GroupEntry}
    {before after : List HeldTransient} {h : HeldTransient} (take : s.takeNumbered n = some t)
    (group : s.groupAt t.group = some e) (waits : ∃ r ∈ t.rows, r.slot = slot ∧ r.status = .pending)
    (held : s.pairing.held = before ++ h :: after) (own : HeldFits t e.content.pairingWindow slot h)
    (near : ∀ x ∈ before, HeldFits t e.content.pairingWindow slot x → ptGap h.pt t.clapPt < ptGap x.pt t.clapPt)
    (far : ∀ x ∈ after, HeldFits t e.content.pairingWindow slot x → ptGap h.pt t.clapPt ≤ ptGap x.pt t.clapPt) :
    visitRow n slot s = pairRow t slot h.count h.pt
      { s with pairing := { s.pairing with held := before ++ after } } := by
  have first : h ∉ before := fun mem => absurd (near h mem own) (lt_irrefl _)
  have pending : t.rows.any (fun r => r.slot == slot && r.isPending) = true := by
    simpa [TakeRow.isPending] using waits
  simp only [ptGap_eq] at near far
  unfold visitRow
  rw [take]
  simp only [pending, if_true]
  rw [heldCandidates_eq s t slot e group, held,
    nearest_filter _ _ (by simpa using own) (fun x mem fit => near x mem (by simpa using fit))
      fun x mem fit => far x mem (by simpa using fit)]
  dsimp only
  rw [erase_split first]
  rfl

/-- SHIFT: a full table loses its oldest take, its clap ended if it is OPEN (R149). -/
theorem handleClap_shift {m : ClapMark} {s : State} {e : Stored GroupEntry} {t : Take} {rest : List Take}
    (slate : (s.ctx m.slot).entry.cls = .slate) (group : s.groupAt (s.ctx m.slot).entry.group = some e)
    (policy : s.pairing.policy = .shift) (takes : s.pairing.takes = t :: rest) (full : rest.length = 63) :
    let s1 := if t.isOpen = true then s.clapEnded t.number else s
    handleClap m s = handleClap m { s1 with pairing := { s1.pairing with takes := s1.pairing.takes.tail } } := by
  intro s1
  let u : State := { s1 with pairing := { s1.pairing with takes := s1.pairing.takes.tail } }
  have shifted : shiftTakes s = u := by
    unfold shiftTakes
    rw [takes]
    simp only [endClap_eq, List.drop_one]
    rfl
  have ctx : u.ctx m.slot = s.ctx m.slot := by
    change s1.ctx m.slot = _
    simp only [s1]
    split <;> simp [State.ctx, State.clapEnded]
  have groups (g : Nat) : u.groupAt g = s.groupAt g := by
    change s1.groupAt g = _
    simp only [s1]
    split <;> simp [State.groupAt, State.clapEnded]
  have room : u.pairing.takes.length < 64 := by
    change s1.pairing.takes.tail.length < 64
    simp only [s1]
    split <;> simp [State.clapEnded, takes, full]
  have tableFull : tableFull s = true := by simp [tableFull, takes, full]
  rw [handleClap_taken slate group, handleClap_taken (s := u) (by rw [ctx]; exact slate) (by rw [ctx, groups]; exact group),
    clapTake_room room, ctx, clapTake, if_neg (by simp [policy])]
  simp only [tableFull, if_true, shifted]

theorem endIfPast_past {n : Nat} {s : State} (past : ∃ c ∈ s.pairing.claps, c.take = n ∧ c.deadline ≤ s.clock.pt) :
    endIfPast n s = s.clapEnded n := by
  rw [endIfPast, if_pos (by simpa using past), endClap_eq]

theorem endIfPast_waits {n : Nat} {s : State} (waits : ∀ c ∈ s.pairing.claps, c.take = n → s.clock.pt < c.deadline) :
    endIfPast n s = s :=
  if_neg (by simpa using waits)

/-- Settles O32, from the take spelled out, its rows and its deadline. -/
theorem clapMakesTake : Obligations.ClapMakesTake := by
  refine ⟨fun m s e => ?_, fun m s e => ?_, fun m s e t rest => handleClap_shift, fun n slot s t e take group =>
    ⟨visitRow_none take group, fun before h after => visitRow_pairs take group⟩,
    fun n s => ⟨endIfPast_past, endIfPast_waits⟩⟩
  · intro g members rows diff n take next slate group valid room s1
    have whole : handleClap m s = makeTake m g e.content s := by
      rw [handleClap_taken slate group, clapTake_room room, valid]
      rfl
    have raised : slateChecked m e.content s = s1 := by
      change (if diff.all _ then raise .slateOff (slateOffDetail n m.slot diff) s else s) = _
      simp only [s1]
      clear_value diff
      cases diff <;> rfl
    have pairing : s1.pairing = s.pairing := raised ▸ slateChecked_pairing ..
    refine ⟨fun none => ?_, fun some => ?_⟩
    · rw [whole, makeTake_closed none, raised, addTake_eq, pairing]
      rfl
    · intro s2
      rw [whole, makeTake_open group some, raised, addTake_eq, addClap_eq]
      have same : (match s1.pairing.claps with
          | [] => s1
          | x :: _ => if s1.pairing.claps.length < 8 then s1 else s1.clapEnded x.take) = s2 :=
        congrArg (fun u : PairingUnit => match u.claps with
          | [] => s1
          | x :: _ => if u.claps.length < 8 then s1 else s1.clapEnded x.take) pairing
      have number : s2.pairing.nextTake = n := by
        rw [← same, pairing]
        cases s.pairing.claps with
        | nil => exact congrArg PairingUnit.nextTake pairing
        | cons x rest =>
          dsimp only
          split <;> simp [pairing, n]
      dsimp only
      rw [same, number]
      rfl
  · intro g diff n slate group damaged room s1
    rw [handleClap_taken slate group, clapTake_room room, damaged, if_pos rfl, makeDamagedTake_eq]
    have pairing : s1.pairing = s.pairing := by
      simp only [s1]
      split <;> simp
    have raised : (if diff = none then raise .slateOff (slateOffDetail n m.slot diff) s else s) = s1 := by
      simp only [s1]
      split
      · next none => rw [none]; rfl
      · rfl
    change addTake _ (if diff = none then raise .slateOff (slateOffDetail n m.slot diff) s else s) = _
    rw [raised, addTake_eq, pairing]

end Sys2Proof.Proofs
end

section
/-! PROOFS. What a pairing resolves (R122, R156 to R158), what the deadlines end (R117, R159 to R161), and what raising
an event does (R186 to R189). -/

namespace Sys2Proof.Proofs

open Sys2Proof.Machine Sys2Proof.Laws

/-! ### Pairing a row -/

/-- A take with the PENDING row of a slot resolved, the other takes as they are (R156). -/
def resolvedTake (n : Nat) (slot : Fin 128) (count : Nat) (delta : Int) (st : RowStatus) (u : Take) : Take :=
  if u.number = n then { u with rows := u.rows.map fun r =>
    if r.slot = slot ∧ r.status = .pending then
      { r with count := some count, delta := some delta, status := st } else r } else u

theorem modTake_resolve (n : Nat) (slot : Fin 128) (count : Nat) (delta : Int) (st : RowStatus) (s : State) :
    s.modTake n (fun t => t.resolve slot count delta st) = { s with pairing := { s.pairing with
      takes := s.pairing.takes.map (resolvedTake n slot count delta st) } } := by
  have same : (fun t : Take => if t.number = n then t.resolve slot count delta st else t) =
      resolvedTake n slot count delta st := by
    funext t
    simp [resolvedTake, Take.resolve, TakeRow.isPending]
  rw [State.modTake, same]
  rfl

theorem resolvedTake_number (n : Nat) (slot : Fin 128) (count : Nat) (delta : Int) (st : RowStatus) (u : Take) :
    (resolvedTake n slot count delta st u).number = u.number := by
  unfold resolvedTake
  split <;> rfl

/-- The take of a number is found after the takes were changed in place. -/
theorem takeNumbered_map {s v : State} {f : Take → Take} {n : Nat} {t : Take}
    (takes : v.pairing.takes = s.pairing.takes.map f) (number : ∀ u, (f u).number = u.number)
    (take : s.takeNumbered n = some t) : v.takeNumbered n = some (f t) := by
  unfold State.takeNumbered at take ⊢
  rw [takes, List.find?_map]
  have same : ((fun t : Take => t.number == n) ∘ f) = fun t => t.number == n := funext fun u => by simp [number]
  rw [same, take]
  rfl

theorem closeIfResolved_eq {n : Nat} {v : State} {t : Take} (take : v.takeNumbered n = some t) :
    closeIfResolved n v = if t.rows.any (fun r => r.status == .pending) then v
      else { v with pairing := { v.pairing with
        takes := v.pairing.takes.map fun u => if u.number = n then { u with isOpen := false } else u
        claps := v.pairing.claps.filter fun d => d.take != n } } := by
  unfold closeIfResolved
  rw [take]
  rfl

theorem anchorChange_pairing (slot : Fin 128) (reason : AnchorReason) (c0 pt0 : Nat) (ending : Option SegmentEnd)
    (s : State) : (anchorChange slot reason c0 pt0 ending s).pairing = s.pairing := by
  have evicted (u : State) : (evictOldest u).pairing = u.pairing := by
    unfold evictOldest
    split
    · rfl
    · split <;> rfl
  have filled (e : SegmentEnd) : (fillSegment slot e s).pairing = s.pairing := by rw [fillSegment_eq]
  change (evictOldest _).pairing = _
  rw [evicted]
  cases ending with
  | none => rfl
  | some e => exact filled e

theorem clapReanchor_pairing (slot : Fin 128) (count clapPt : Nat) (delta : Int) (s : State) :
    (clapReanchor slot count clapPt delta s).pairing = s.pairing := anchorChange_pairing ..

theorem stepApplies_false {s : State} {g : Nat} {delta : Int}
    (quiet : ∀ e, s.groupAt g = some e → e.content.policy = .report ∨ |delta| < (e.content.stepThreshold : Int)) :
    stepApplies s g delta = false := by
  unfold stepApplies
  cases group : s.groupAt g with
  | none => rfl
  | some e =>
    obtain report | small := quiet e group
    · simp [report]
    · simp [Int.not_le.2 small]

theorem stepApplies_true {s : State} {g : Nat} {delta : Int} {e : Stored GroupEntry} (group : s.groupAt g = some e)
    (step : e.content.policy = .step) (large : (e.content.stepThreshold : Int) ≤ |delta|) :
    stepApplies s g delta = true := by
  simp [stepApplies, group, step, large]

theorem clapReanchorRefused_iff (c : Context) (delta : Int) : clapReanchorRefused c delta = true ↔
    c.state = .closed ∨ (c.entry.adjustLimit : Int) < |c.adjust - delta| := by
  simp [clapReanchorRefused, Context.isOpen]

/-- A CLAP re-anchor ties the count to the clap PT under the latency adjust moved (R122). -/
theorem clapReanchor_eq {slot : Fin 128} {s : State} {w : SourceEntry} {a : Anchor} (count clapPt : Nat) (delta : Int)
    (work : (s.ctx slot).work = some w) (anchor : (s.ctx slot).anchor = some a) :
    let c := s.ctx slot
    clapReanchor slot count clapPt delta s =
      (s.segmentEnded c ⟨count, (forward (contextConversion s c a) (ptHeld s) count).value⟩).anchoredAt slot
        { c with adjust := c.adjust - delta, windowCount := 0, windowSum := 0 } w .clap count clapPt := by
  unfold clapReanchor
  dsimp only
  rw [anchorChange_eq _ _ _ _ _ _ _ w (by exact work)]
  simp only [State.segmentEnded, anchor, Option.map_some]

/-- Settles O33: the row resolved, and the take closed if it was the last. -/
theorem pairingResolvesRowAndReanchors : Obligations.PairingResolvesRowAndReanchors := by
  refine ⟨fun t slot count pt s take => ?_, fun slot count clapPt delta s w a work anchor =>
    clapReanchor_eq count clapPt delta work anchor⟩
  intro c delta resolved s1 closed
  have modified (st : RowStatus) : s.modTake t.number (fun t => t.resolve slot count delta st) = s1 st :=
    modTake_resolve ..
  have closes {st : RowStatus} {v : State} (same : v.pairing = (s1 st).pairing) :
      closeIfResolved t.number v = closed st v :=
    closeIfResolved_eq (takeNumbered_map (f := resolved st) (by rw [same])
      (resolvedTake_number t.number slot count delta st) take)
  refine ⟨fun quiet => ?_, fun e group step large => ⟨fun live within => ?_, fun refused => ?_⟩⟩
  · rw [pairRow, stepApplies_false quiet]
    exact (congrArg _ (modified .paired)).trans (closes rfl)
  · have agreed : ¬ clapReanchorRefused c delta = true := by
      rw [clapReanchorRefused_iff]
      rintro (shut | beyond)
      · exact live shut
      · omega
    rw [pairRow, stepApplies_true group step large]
    simp only [if_true]
    rw [if_neg agreed]
    exact (congrArg (fun u => closeIfResolved _ (clapReanchor slot count t.clapPt delta u)) (modified .paired)).trans
      (closes (clapReanchor_pairing ..))
  · rw [pairRow, stepApplies_true group step large]
    simp only [if_true]
    rw [if_pos ((clapReanchorRefused_iff c delta).2 refused)]
    exact (congrArg (fun u => closeIfResolved _ (raise _ _ u)) (modified .disagree)).trans (closes (raise_pairing ..))

/-! ### Expiries -/

theorem slotOf_val (slot : Fin 128) : slotOf slot = some slot := dif_pos slot.isLt

theorem silenceDue_iff (c : Context) : c.silenceDue = true ↔
    c.state ≠ .closed ∧ c.state ≠ .lost ∧ c.anchor ≠ none ∧ c.silence = 0 := by
  simp [Context.silenceDue, Context.counting, isOpen_iff, and_assoc, Option.isSome_iff_ne_none]

theorem deadlineReached_iff (s : State) (d : Nat) :
    deadlineReached s d = true ↔ s.mgmt.device = .running ∧ d ≤ s.clock.pt := by
  simp [deadlineReached]

theorem clapEnded_eq {s : State} {n : Nat} {t : Take} (take : s.takeNumbered n = some t) :
    let unpaired (r : TakeRow) : TakeRow := if r.status = .pending then { r with status := .unpaired } else r
    s.clapEnded n = raise .clapUnpaired
      (beBytes 2 n ++ beBytes 1 (min ((t.rows.map unpaired).countP fun r => r.status == .unpaired) 255))
      { s with pairing := { s.pairing with
        takes := s.pairing.takes.map fun u =>
          if u.number = n then { u with rows := u.rows.map unpaired, isOpen := false } else u
        claps := s.pairing.claps.filter fun d => d.take != n } } := by
  unfold State.clapEnded
  rw [take]
  rfl

theorem exec_alive {f : State → State} {s : State} (alive : s.alive = true) : whenAlive f s = .next (f s) := by
  rw [whenAlive, if_pos alive]

/-- Settles O34, expiry by expiry. -/
theorem expiriesEndWhatTheyTime : Obligations.ExpiriesEndWhatTheyTime := by
  refine ⟨fun slot s alive state anchor zero => ?_, fun c t s alive run mem past take => ?_,
    fun i h s alive run held past => ?_⟩
  · have due : (s.ctx slot).silenceDue = true :=
      (silenceDue_iff _).2 ⟨by obtain h | h | h := state <;> simp [h], not_lost state, anchor, zero⟩
    change execSilenceExpiry slot s = _
    rw [execSilenceExpiry, exec_alive alive, slotOf_val]
    dsimp only
    rw [expireSilence, if_pos due]
  · have due : clapDue s c.take = true := by
      simp only [clapDue, List.any_eq_true, Bool.and_eq_true, beq_iff_eq, deadlineReached_iff]
      exact ⟨c, mem, rfl, run, past⟩
    intro unpaired
    refine (exec_alive alive).trans ?_
    dsimp only
    rw [if_pos due, endClap_eq, clapEnded_eq take]
  · refine (exec_alive alive).trans ?_
    rw [expireTransient, held]
    dsimp only
    rw [if_pos ((deadlineReached_iff s h.deadline).2 ⟨run, past⟩)]
    rfl

/-! ### Raised events -/

theorem noticeWanted_iff (c : EventClass) (s : State) :
    noticeWanted c s = true ↔ s.managerNode ≠ 0 ∧ s.threshold < s.level (eventIndex c) := by
  simp [noticeWanted]

theorem raise_plain {c : EventClass} {d : List Byte} {s : State}
    (plain : (s.event c).flag = true ∨ ¬ noticeWanted c s = true) : raise c d s = recordEvent c d s := by
  have none : ¬ ((!(s.event c).flag && noticeWanted c (recordEvent c d s)) = true) := by
    change ¬ ((!(s.event c).flag && noticeWanted c s) = true)
    obtain flag | unwanted := plain <;> simp_all
  rw [raise, if_neg none]

theorem raise_notice {c : EventClass} {d : List Byte} {s : State} (clear : (s.event c).flag = false)
    (wanted : noticeWanted c s = true) : raise c d s = sendNotice c d (recordEvent c d s) := by
  have notice : (!(s.event c).flag && noticeWanted c (recordEvent c d s)) = true := by
    change (!(s.event c).flag && noticeWanted c s) = true
    simp [clear, wanted]
  rw [raise, if_pos notice]

theorem sendNotice_full {c : EventClass} {d : List Byte} {s : State} (full : s.hasRoom s.managerPort = false) :
    sendNotice c d s = raiseNoticeDrop (dropNotice s) := by
  rw [sendNotice, if_neg (by simp [full])]

theorem dropNotice_events (s : State) : (dropNotice s).events = s.events := countAt_events ..

theorem raiseNoticeDrop_plain {s : State}
    (plain : (s.events[eventIndex .egressDrop]).flag = true ∨ s.level 14 ≤ s.threshold) :
    raiseNoticeDrop s = recordEvent .egressDrop (dropDetail s.managerPort 3) s := by
  refine if_neg ?_
  change ¬ ((!(s.events[eventIndex .egressDrop]).flag && noticeWanted .egressDrop s) = true)
  obtain flag | low := plain
  · rw [flag]
    simp
  · have unwanted : ¬ noticeWanted .egressDrop s = true := by
      rw [noticeWanted_iff]
      exact fun h => absurd h.2 (Nat.not_lt.2 low)
    simp [unwanted]

theorem raiseNoticeDrop_again {s : State} (clear : (s.events[eventIndex .egressDrop]).flag = false)
    (wanted : noticeWanted .egressDrop s = true) :
    raiseNoticeDrop s = recordEvent .egressDrop (dropDetail s.managerPort 3)
      (dropNotice (recordEvent .egressDrop (dropDetail s.managerPort 3) s)) := by
  refine if_pos ?_
  change (!(s.events[eventIndex .egressDrop]).flag && noticeWanted .egressDrop s) = true
  rw [clear, wanted]
  rfl

@[simp] theorem dropNotice_inUse (s : State) (n : Nat) : (dropNotice s).inUse n = s.inUse n := countAt_inUse ..

/-- Settles O35, by the flag, the level and the room. -/
theorem raisedEventCountsAndNotifies : Obligations.RaisedEventCountsAndNotifies := by
  intro c d s e s1 wanted noticeDropped
  have asked : noticeWanted c s = true ↔ wanted := noticeWanted_iff c s
  have dropped (t : State) (same : t.managerPort = s.managerPort) : dropNotice t = noticeDropped t := by
    rw [dropNotice, same]
  have room : s1.hasRoom s1.managerPort = s.hasRoom s.managerPort := rfl
  have port : (dropNotice s1).managerPort = s.managerPort := by
    simp only [State.managerPort, dropNotice_inUse]
    rfl
  have detail (t : State) (same : t.managerPort = s.managerPort) :
      dropDetail t.managerPort 3 = [portCode s.managerPort, 3] := by rw [same]; rfl
  refine ⟨rfl, fun plain => raise_plain (plain.imp id (mt asked.1)), fun clear want free => ?_,
    fun clear want full plain => ?_, fun clear want full fresh high => ?_⟩
  · rw [raise_notice clear (asked.2 want), sendNotice, if_pos (room.trans free)]
    rfl
  · rw [raise_notice clear (asked.2 want), sendNotice_full (room.trans full), raiseNoticeDrop_plain, detail _ port]
    · rfl
    · rw [dropNotice_events]
      simp only [State.level, State.threshold, dropNotice_inUse]
      exact plain
  · have again : noticeWanted .egressDrop (dropNotice s1) = true := by
      rw [noticeWanted_iff]
      simp only [State.level, State.threshold, State.managerNode, dropNotice_inUse]
      exact ⟨want.1, high⟩
    rw [raise_notice clear (asked.2 want), sendNotice_full (room.trans full),
      raiseNoticeDrop_again (by rw [dropNotice_events]; exact fresh) again, detail _ port]
    rw [dropped _ (by exact port), dropped s1 rfl]

end Sys2Proof.Proofs
end

section
/-! PROOFS. What the passing of time does: the boundaries of milliframes and frames (R2, R3), the run's beginning (R177),
the Reference Monitor (R12 to R16), the tick cells (R18) and lines (R19 to R22), the walk (R60), and one cycle with no
command waiting. -/

namespace Sys2Proof.Proofs

open Sys2Proof.Machine Sys2Proof.Laws

/-! ### Boundaries with nothing due -/

/-- At a quiet instant the time to the next boundary passes with the clock alone. -/
theorem passToBoundary_quiet {s : State} {n : Nat} (quiet : Quiet s) (nothing : NothingEndsWithin n s)
    (cycles : cyclesToBoundary s = n) :
    passCycles (cyclesToBoundary (settle s)) (settle s) =
      { s with clock := { s.clock with now := s.clock.now + n, phase := s.clock.phase + n } } := by
  rw [settle_quiet s quiet, cycles, passCycles_eq n s nothing]

/-- In the last milliframe the next boundary is the frame's end. -/
theorem cyclesToBoundary_last {s : State} (k : s.clock.k = 999) :
    cyclesToBoundary s = s.clock.period - s.clock.phase := by
  simp [cyclesToBoundary, milliframeStart, k]

/-- The frame boundary that ends the frame in progress, at a quiet instant. -/
theorem nextFrame_quiet {s : State} {n : Nat} (quiet : Quiet s) (nothing : NothingEndsWithin n s)
    (cycles : s.clock.period - s.clock.phase = n) (k : s.clock.k = 999) :
    nextFrame s = beginFrame (min (s.clock.pt + 1) Config.maxPt)
      { s with clock := { s.clock with now := s.clock.now + n, phase := s.clock.phase + n } } := by
  rw [nextFrame, lastMilliframe_last s k, endFrame]
  simp only [passToBoundary_quiet quiet nothing ((cyclesToBoundary_last k).trans cycles)]

theorem runReady_iff (s : State) : runReady s = true ↔ s.mgmt.device = .starting ∧ s.tables.walk = .ended := by
  simp [runReady]

theorem runReady_false {s : State} (waits : ¬ (s.mgmt.device = .starting ∧ s.tables.walk = .ended)) :
    runReady s = false :=
  Bool.eq_false_iff.mpr fun ready => waits ((runReady_iff s).mp ready)

/-- Settles O37: nothing being due, the boundary's cycles pass with the clock alone. -/
theorem milliframeBoundaryAdvances : Obligations.MilliframeBoundaryAdvances := by
  intro s n alive quiet nothing k
  refine (exec_alive alive).trans ?_
  have passed := passToBoundary_quiet quiet nothing (show cyclesToBoundary s = n from rfl)
  have next : nextMilliframe s = milliframeBegun
      { s with clock := { s.clock with now := s.clock.now + n, phase := s.clock.phase + n } } := by
    rw [nextMilliframe, if_pos k, ← passed]
    rfl
  rw [next]
  by_cases run : s.mgmt.device = .running
  · rw [milliframeBegun_run (by exact run)]
    simp [run]
  · rw [milliframeBegun_rest (by exact run)]
    simp [run]

/-- Settles O38: the frame begins after the boundary's cycles, and in a run the Scrubber's visits come first. -/
theorem frameBoundaryPacesBlocks : Obligations.FrameBoundaryPacesBlocks := by
  intro s n pt alive quiet nothing k waits
  have ready := runReady_false waits
  have boundary : exec .frameBoundary s = .next (beginFrame pt
      { s with clock := { s.clock with now := s.clock.now + n, phase := s.clock.phase + n } }) :=
    (exec_alive alive).trans (congrArg _ (nextFrame_quiet quiet nothing rfl k))
  refine ⟨fun whole => ?_, fun run pos => ?_⟩
  · rw [boundary, beginFrame_eq n pt s ready whole]
  · obtain ⟨f, start, visits, last⟩ := scrub_visits s.settings.scrubRate (s.frameOpened n pt) pos
    refine ⟨f, start, visits, ?_⟩
    rw [boundary, beginFrame_opens n pt s ready, if_pos run, last]

/-- Settles O39: at the frame boundary the waiting run begins in place of the frame-paced blocks. -/
theorem runBeginsAtFrameBoundary : Obligations.RunBeginsAtFrameBoundary := by
  intro s n alive quiet nothing k device walk
  have ready : runReady s = true := (runReady_iff s).mpr ⟨device, walk⟩
  have same : exec .frameBoundary s = exec .runBegin s := by
    refine (exec_alive alive).trans (((exec_alive alive).trans ?_).symm)
    rw [if_pos ready]
  refine ⟨same ▸ (exec_alive alive).trans (congrArg _ ?_), same⟩
  rw [nextFrame_quiet (n := n) quiet nothing rfl k, beginFrame, if_pos (by exact ready), beginRun]
  have due : (s.settings.tickInterval != 0) = decide (s.settings.tickInterval ≠ 0) := by
    rw [Bool.eq_iff_iff, bne_iff_ne, decide_eq_true_eq]
  dsimp only
  rw [due]

/-! ### The Reference Monitor -/

theorem noise_iff {s : State} {t : Nat} (last : s.monitor.last = some t) :
    isNoise s = decide (2 * (s.clock.now - t) < pulsePeriod s.clock.params) := by
  simp [isNoise, last]

/-- A pulse that is no noise is accepted, recorded and restarts the missing timer (R12). -/
theorem refPulse_accepted {s : State} (free : s.clock.state ≠ .free) (heard : isNoise s = false) :
    refPulse s = acceptPulse s := by
  simp [refPulse, free, heard]

/-- The state with an accepted pulse recorded and the missing timer restarted. -/
def pulseRecorded (s : State) : State :=
  { s with monitor := { s.monitor with last := some s.clock.now, missing := true } }

theorem acceptPulse_locked {s : State} {t : Nat} (last : s.monitor.last = some t)
    (locked : s.clock.state = .locked) : acceptPulse s = judgePhase (pulseRecorded s) := by
  simp only [acceptPulse, last, if_pos locked]
  rfl

theorem acceptPulse_unlocked {s : State} {t : Nat} (last : s.monitor.last = some t)
    (unlocked : s.clock.state ≠ .locked) :
    acceptPulse s = judgeInterval (s.clock.now - t) (pulseRecorded s) := by
  simp only [acceptPulse, last, if_neg unlocked]
  rfl

/-- A hold sets the frame phase to 0 and withholds the milliframes already begun (R16). -/
theorem align_hold {s : State} (k : s.clock.k < 500) : align s = { s with clock := { s.clock with
    phase := 0, k := 0, hold := if s.mgmt.device = .running then s.clock.hold + s.clock.k else 0 } } := by
  rw [align, if_neg (by omega)]

theorem judgeInterval_good {s : State} {n : Nat} (good : intervalGood s.clock.params n = true) :
    judgeInterval n s =
      if s.clock.params.lockCount ≤ s.monitor.good + 1 then
        lockReference { s with monitor := { s.monitor with good := s.monitor.good + 1, armed := true } }
      else { s with monitor := { s.monitor with good := s.monitor.good + 1, armed := true } } := by
  simp only [judgeInterval, good, if_true]

theorem judgeInterval_bad {s : State} {n : Nat} (bad : intervalGood s.clock.params n = false) :
    judgeInterval n s =
      if s.monitor.armed then
        raise .refRate (satBytes 4 n) { s with monitor := { s.monitor with good := 0, armed := false } }
      else { s with monitor := { s.monitor with good := 0, armed := false } } := by
  simp only [judgeInterval, bad, Bool.false_eq_true, if_false]

/-- A good pulse that locks below milliframe 500 aligns by a hold (R13, R16). -/
theorem lockReference_hold {s : State} (k : s.clock.k < 500) : lockReference s =
    raise .refLock ([1] ++ beBytes 2 s.clock.k) { s with
      clock := { s.clock with
        state := .locked, phase := 0, k := 0
        hold := if s.mgmt.device = .running then s.clock.hold + s.clock.k else 0 }
      monitor := { s.monitor with bad := 0 } } := by
  rw [lockReference, alignDetail, if_neg (by omega), align_hold (by exact k)]

theorem frameBegun_keepsMonitor (s : State) (n pt : Nat) : (s.frameBegun n pt).monitor = s.monitor := by
  unfold State.frameBegun
  split <;> rfl

theorem frameLines_keepsMonitor (s : State) : (frameLines s).monitor = s.monitor := by
  unfold frameLines
  split <;> rfl

/-- A good pulse that locks from milliframe 500 on aligns by a step, which begins a frame (R13, R16). -/
theorem lockReference_step (s : State) (k : 500 ≤ s.clock.k) (quiet : Quiet s) (whole : ScrubFindsWhole s)
    (ready : runReady s = false) : lockReference s =
    raise .refLock ([0] ++ beBytes 2 (1000 - s.clock.k)) (frameLines (State.frameBegun
      { s with clock := { s.clock with state := .locked }, monitor := { s.monitor with bad := 0 } } 0
      (min ((s.clock.pt / 1000 + 1) * 1000) Config.maxPt))) := by
  let locked : State := { s with clock := { s.clock with state := .locked } }
  have aligned : align locked = _ := align_step locked k quiet whole ready
  rw [lockReference, alignDetail, if_pos k]
  dsimp only
  rw [aligned, frameLines_keepsMonitor, frameBegun_keepsMonitor, ← frameLines_monitor, ← frameBegun_monitor]

/-- Settles O40: the pulse is judged by the clock's state, by the noise test and by its interval. -/
theorem refinPulseIsJudged : Obligations.RefinPulseIsJudged := by
  intro s alive p rp m now
  have run : exec .refinPulse s = .next (refPulse s) := exec_alive alive
  refine ⟨fun free => ?_, fun free none => ?_, fun t free last noise => ?_, fun t state last heard => ?_⟩
  · rw [run, refPulse, if_pos free]
  · have heard : isNoise s = false := by simp [isNoise, show s.monitor.last = Option.none from none]
    rw [run, refPulse_accepted free heard, acceptPulse]
    simp only [show s.monitor.last = Option.none from none]
    rfl
  · have noisy : isNoise s = true := by
      rw [noise_iff last]
      exact decide_eq_true noise
    rw [run, refPulse, if_neg free, if_pos noisy]
    rfl
  · intro good locking
    have free : s.clock.state ≠ .free := by rcases state with h | h <;> simp [h]
    have unlocked : s.clock.state ≠ .locked := by rcases state with h | h <;> simp [h]
    have quietPulse : isNoise s = false := by
      rw [noise_iff last]
      exact decide_eq_false (Nat.not_lt.mpr heard)
    have judged : exec .refinPulse s = .next (judgeInterval (now - t) (pulseRecorded s)) := by
      rw [run, refPulse_accepted free quietPulse, acceptPulse_unlocked last unlocked]
    have good_iff : intervalGood s.clock.params (now - t) = true ↔ good := by
      simp only [intervalGood, Bool.and_eq_true, decide_eq_true_eq]
      exact Iff.rfl
    have locks (isGood : good) (count : p.lockCount ≤ m.good + 1) :
        judgeInterval (now - t) (pulseRecorded s) = lockReference { s with monitor := { m with
          last := some now, missing := true, good := m.good + 1, armed := true } } := by
      rw [judgeInterval_good (by exact good_iff.mpr isGood), if_pos (by exact count)]
      rfl
    refine ⟨fun isGood count => ?_, fun isGood count k => ?_, fun isGood count k quiet whole waits => ?_,
      fun isBad => ?_⟩
    · rw [judged, judgeInterval_good (by exact good_iff.mpr isGood), if_neg (by exact Nat.not_le.mpr count)]
      rfl
    · rw [judged, locks isGood count, lockReference_hold (by exact k)]
    · refine judged.trans (congrArg _ ((locks isGood count).trans ?_))
      exact lockReference_step _ k quiet whole (runReady_false waits)
    · rw [judged, judgeInterval_bad (by exact Bool.eq_false_iff.mpr fun h => isBad (good_iff.mp h))]
      rfl

/-- Settles O41: within the lock window the pulse aligns, beyond it it is bad, and the last bad one loses. -/
theorem lockedPulseRetimesOrLoses : Obligations.LockedPulseRetimesOrLoses := by
  intro s t alive locked last p m now error heard
  have quietPulse : isNoise s = false := by
    rw [noise_iff last]
    exact decide_eq_false (Nat.not_lt.mpr heard)
  have judged : exec .refinPulse s = .next (judgePhase (pulseRecorded s)) :=
    (exec_alive alive).trans (by
      rw [refPulse_accepted (by simp [locked]) quietPulse, acceptPulse_locked last locked])
  have aligned (near : |error| ≤ p.window) : judgePhase (pulseRecorded s) = align { s with monitor := { m with
      last := some now, missing := true, bad := 0 } } := by
    rw [judgePhase, if_pos (by exact near)]
    rfl
  have counted (far : (p.window : Int) < |error|) : judgePhase (pulseRecorded s) =
      if p.lossCount ≤ m.bad + 1 then
        loseReference 1 { s with monitor := { m with last := some now, missing := true, bad := m.bad + 1 } }
      else { s with monitor := { m with last := some now, missing := true, bad := m.bad + 1 } } := by
    rw [judgePhase, if_neg (by exact Int.not_le.mpr far)]
    rfl
  refine ⟨fun near k => ?_, fun near k quiet whole waits => ?_, fun far few => ?_, fun far many => ?_⟩
  · rw [judged, aligned near, align_hold (by exact k)]
  · refine judged.trans (congrArg _ ((aligned near).trans ?_))
    exact align_step _ k quiet whole (runReady_false waits)
  · rw [judged, counted far, if_neg (Nat.not_le.mpr few)]
  · rw [judged, counted far, if_pos many]
    rfl

/-- Settles O42: the timer's last cycle has come, so no time passes before the expiry. -/
theorem missingTimerExpires : Obligations.MissingTimerExpires := by
  intro s t alive missing last p ends nothing
  have left : missingLeft s = some 0 := by
    simp only [missingLeft, missing, last]
    exact congrArg some (Nat.sub_eq_zero_of_le (le_of_eq ends))
  have expires : missingExpiry s = expireMissing s := by
    simp only [missingExpiry, missingDue, left, Nat.zero_le, if_true]
    rw [passCycles_eq 0 s nothing]
    rfl
  have run : exec .missingTimerExpiry s = .next (expireMissing s) :=
    (exec_alive alive).trans (congrArg _ expires)
  refine ⟨fun locked => ?_, fun unlocked => ?_⟩
  · rw [run, expireMissing]
    simp only [locked]
    rfl
  · rw [run, expireMissing]
    rcases unlocked with state | state <;> simp only [state]

/-! ### Tick cells and tick lines -/

theorem joinTick_eq (p : Port) (d : List Byte) (s : State) : joinTick p d s = s.tickOffered p d := by
  cases p <;> rfl

/-- Settles O43: the two cells are offered one after the other, each by the port's own rule. -/
theorem dueTickMakesTwoCells : Obligations.DueTickMakesTwoCells := by
  intro s alive pt d
  have run : exec .tickDue s = .next (makeTick s) := exec_alive alive
  refine ⟨fun idle => ?_, fun due => ?_⟩
  · rw [run, makeTick, if_neg (by simp [idle])]
  · rw [run, makeTick, if_pos due, joinTick_eq, joinTick_eq]
    rfl

theorem lineDue_iff (l : LineState) : l.due = true ↔ l.started = true ∧ l.counter = 0 := by
  simp [LineState.due]

/-- A started TICKB at 0 toggles and is loaded anew, except in COMPLEMENT mode (R19, R20). -/
theorem toggleB_due {s : State} (runs : linesRun s = true) (due : s.lines.b.due = true)
    (mode : s.lines.mode ≠ .complement) : toggleB s = { s with lines :=
      { s.lines with b := { s.lines.b with high := !s.lines.b.high, counter := s.inUse 56 } } } := by
  rw [toggleB, if_pos (by simp [runs, due, mode])]
  rfl

/-- A started TICKA at 0 toggles and is loaded anew, the mode is read, and TICKB follows (R19, R20). -/
theorem toggleA_due {s : State} (runs : linesRun s = true) (due : s.lines.a.due = true)
    (apart : s.lines.b.due = false) : toggleA s = { s with lines := complementB {
      a := { s.lines.a with high := !s.lines.a.high, counter := s.inUse 55 }
      b := chainB (lineModeInUse s) s.lines.bLoaded s.lines.b, mode := lineModeInUse s
      bLoaded := s.lines.bLoaded } } := by
  have still : toggleB s = s := by rw [toggleB, if_neg (by simp [apart])]
  rw [toggleA, if_pos (by simp [runs, due]), still]
  rfl

/-- TICKB at a toggle of TICKA, under the mode read there (R20, R21). -/
theorem chainB_complementB (mode : LineMode) (loaded aHigh : Bool) (b : LineState) :
    (if mode = .complement ∧ (chainB mode loaded b).started then { (chainB mode loaded b) with high := !aHigh }
      else chainB mode loaded b) =
    if b.started = false then b
    else if mode = .chained ∧ loaded = false then { b with counter := b.counter - 1 }
    else if mode = .complement ∧ b.started then { b with high := !aHigh } else b := by
  cases started : b.started <;> cases mode <;> cases loaded <;> simp [chainB, started]

theorem enabled_iff (s : State) (code : Nat) : (s.inUse code == 1) = decide (s.inUse code = 1) := by
  rw [Bool.eq_iff_iff, beq_iff_eq, decide_eq_true_eq]

/-- TICKB at its start: its level, its divisor loaded (R21). -/
theorem startedB_eq (s : State) (mode : LineMode) (aHigh : Bool) :
    (⟨startLevelB mode aHigh, lineDivisor s .b, true⟩ : LineState) =
      ⟨if mode = .complement then !aHigh else true, s.inUse 56, true⟩ := by
  cases mode <;> rfl

/-- TICKA at a house frame boundary (R19, R21). -/
theorem frameLineA_eq (s : State) (a : LineState) : frameLineA s a =
    if s.inUse 53 ≠ 1 then a
    else if a.started then { a with counter := a.counter - 1 } else ⟨false, s.inUse 55, true⟩ := by
  unfold frameLineA lineEnabled
  by_cases on : s.inUse 53 = 1 <;> simp [on, lineDivisor]

/-- TICKB at a house frame boundary (R19 to R21). -/
theorem frameLineB_eq (s : State) (mode : LineMode) (aHigh : Bool) (b : LineState) :
    frameLineB s mode aHigh b =
      if s.inUse 54 ≠ 1 then b
      else if b.started then (if mode = .separate then { b with counter := b.counter - 1 } else b)
      else ⟨if mode = .complement then !aHigh else true, s.inUse 56, true⟩ := by
  rw [frameLineB, startedB_eq]
  by_cases on : s.inUse 54 = 1 <;> simp [on, lineEnabled]

/-- Settles O44: TICKA's line first, then TICKB's under the mode just read, then COMPLEMENT's inverse. -/
theorem tickLinesCountAndToggle : Obligations.TickLinesCountAndToggle := by
  intro s alive runs a b da db mode started inverse
  refine ⟨?_, ?_, fun aStarted aZero bCounts => ?_, fun bStarted bZero apart => ?_, fun bStarted bZero chained => ?_⟩
  · intro a1 b1
    have loaded : (lineEnabled s .b && !s.lines.b.started) =
        decide (s.inUse 54 = 1 ∧ b.started = false) := by
      simp [lineEnabled, b, enabled_iff]
    rw [frameLines, if_pos runs]
    dsimp only
    rw [complementB_eq, frameLineA_eq, frameLineB_eq, loaded]
    rfl
  · intro a1 b1
    rw [restartLines, complementB_eq, startedB_eq]
    simp only [lineEnabled, enabled_iff, decide_eq_true_eq]
    rfl
  · have apart : s.lines.b.due = false :=
      Bool.eq_false_iff.mpr fun due => bCounts ((lineDue_iff _).mp due).2
    change execTickLineToggle .a s = _
    rw [execTickLineToggle, whenAlive, if_pos alive, toggleA_due runs ((lineDue_iff _).mpr ⟨aStarted, aZero⟩) apart,
      complementB_eq, chainB_complementB]
    rfl
  · change execTickLineToggle .b s = _
    rw [execTickLineToggle, whenAlive, if_pos alive, toggleB_due runs ((lineDue_iff _).mpr ⟨bStarted, bZero⟩) apart]
  · refine (exec_alive alive).trans ?_
    rw [if_pos chained, toggleB_due runs ((lineDue_iff _).mpr ⟨bStarted, bZero⟩) (by simp [chained])]

/-! ### The validation walk -/

/-- Settles O45: a check of the walk is the check of its position; a walk over whole entries only goes on. -/
theorem walkChecksPositionsInOrder : Obligations.WalkChecksPositionsInOrder := by
  intro s n t alive walk
  refine ⟨fun inside => ⟨checkPosition n s, checkPosition_leaves n s, ?_⟩, fun whole => ?_⟩
  · refine (exec_alive alive).trans (congrArg _ ?_)
    simp only [walkCheck, walk, inside, if_true]
    rfl
  · refine (exec_alive alive).trans (congrArg _ ?_)
    simp only [walkEnd, walk]
    by_cases inside : n ≤ 400
    · rw [walkChecks_whole n (400 - n) t s walk (by omega) fun j from_ before => whole j from_ (by omega)]
      rfl
    · rw [show 400 - n = 0 by omega]
      rfl

/-! ### One cycle with no command waiting -/

/-- With no request, or one in handling, none begins. -/
theorem beginManagement_waits {s : State} (waits : s.mgmt.inbox = [] ∨ s.mgmt.handling ≠ none) :
    beginManagement s = s := by
  unfold beginManagement
  rcases waits with empty | busy
  · rw [empty]
  · obtain ⟨answer, handled⟩ := Option.ne_none_iff_exists'.mp busy
    split
    · rfl
    · split <;> exact beginHandling_busy handled

theorem beginService_busy {s : State} {a : List (List Byte)} {kind : Nat}
    {answer : Request → State → List (List Byte)} (h : s.locate.service = some a) :
    beginService kind answer s = s := by
  simp [beginService, h]

/-- With no locate request, or one in service, none begins. -/
theorem beginLocate_waits {s : State} (waits : s.locate.queue = [] ∨ s.locate.service ≠ none) :
    beginLocate s = s := by
  unfold beginLocate
  rcases waits with empty | busy
  · rw [empty]
  · obtain ⟨answer, served⟩ := Option.ne_none_iff_exists'.mp busy
    split
    · rfl
    · split <;> exact beginService_busy served

/-- No sending begins at a port that cannot send. -/
theorem startSending_waits {s : State} {p : Port} (waits : canSend s p = false) : startSending p s = s := by
  unfold startSending
  dsimp only
  split
  · next c rest queue sending =>
    have held : (s.port p).heldOff = true := by simpa [canSend, queue, sending] using waits
    rw [if_pos held]
  · rfl
  · rfl

theorem walkTick_waits {s : State} (waits : ∀ n t, s.tables.walk ≠ .checking n t) : walkTick s = s := by
  unfold walkTick
  split
  · next n t walk => exact absurd walk (waits n t)
  · rfl
  · rfl

/-- Settles O2: each unit's turn leaves the state, and then one cycle passes. -/
theorem emptyQueuePassesOneCycle : Obligations.EmptyQueuePassesOneCycle := by
  intro s empty
  have idles : step s = .next (idle s) := by rw [step, empty]
  refine ⟨fun held => ?_, fun alive quiet nothing walk inbox queue stage post boundary => ?_⟩
  · rw [idles, idle, if_neg (by simp [held])]
  · rw [idles, idle, if_pos alive, settle_quiet s quiet, walkTick_waits walk, beginManagement_waits inbox,
      beginLocate_waits queue, startSending_waits stage, startSending_waits post, clockTick, if_neg boundary,
      passCycles_eq 1 s nothing]

end Sys2Proof.Proofs
end

section
/-! PROOFS. Power-up, RESETn and the boot record (R168 to R170), the ends of handlings and services (R131, R173), and
what the beginning of a handling leaves of a refused request (R45, R172) and of the address (R180). -/

namespace Sys2Proof.Proofs

open Sys2Proof.Machine Sys2Proof.Laws

/-! ### Power-up values -/

/-- Settles O46: each of the commands is the power-up values under the lines as they then stand. -/
theorem resetsGivePowerUpValues : Obligations.ResetsGivePowerUpValues := by
  intro s discarding held
  refine ⟨rfl, rfl, ?_, fun low => ?_, fun high => ?_⟩
  · change Host.Outcome.next (powerUpValues { s with resetLow := true }) = _
    have off : (s.powered && !true) = false := by simp
    simp only [held, off]
    rfl
  · change execResetnRelease s = _
    rw [execResetnRelease, if_pos low]
    rfl
  · change execResetnRelease s = _
    rw [execResetnRelease, if_neg (by simp [high])]

/-- The read of the boot record ends while it is in progress in BOOT (R168). -/
theorem exec_bootRecordReadEnd {s : State} (alive : s.alive = true) (boot : s.mgmt.device = .boot)
    (reading : s.boot.reading = true) : exec .bootRecordReadEnd s = .next (bootReadEnd s) := by
  refine (exec_alive alive).trans ?_
  rw [if_pos (by simp [boot, reading])]

/-- Settles O47: a good record gives its address, any other 0 with BOOT_RECORD_BAD. -/
theorem bootRecordReadSetsAddress : Obligations.BootRecordReadSetsAddress := by
  intro s alive boot reading read
  have run := exec_bootRecordReadEnd alive boot reading
  refine ⟨fun check least most => ?_, fun check zero => ?_, fun bad => ?_⟩
  · have good : bootGood s.boot = true := by simp [bootGood, check, most]
    rw [run, bootReadEnd, if_pos good, bootAddress, good, if_pos rfl, if_neg (by omega)]
  · have good : bootGood s.boot = true := by simp [bootGood, check, zero]
    rw [run, bootReadEnd, if_pos good, bootAddress, good, if_pos rfl, zero, if_pos rfl]
  · have spoilt : bootGood s.boot = false := by
      rcases bad with check | highest
      · simp [bootGood, check]
      · simp [bootGood, highest]
    rw [run, bootReadEnd, if_neg (by simp [spoilt]), bootAddress, spoilt]
    rfl

/-! ### Replies at the end of a handling and of a service -/

theorem joinReply_eq (p : Port) (dest : Byte) (d : List Byte) (s : State) :
    joinReply p dest d s = s.replyOffered p dest d := by
  cases p <;> rfl

theorem joinReplies_eq (r : Request) (cells : List (List Byte)) (s : State) :
    joinReplies r.port r.origin cells s = s.replyMade r cells := by
  unfold joinReplies State.replyMade
  exact List.foldl_ext _ _ _ fun t d _ => joinReply_eq r.port r.origin d t

/-- A state with another boot record: no reply looks at it. -/
def withBoot (b : BootRecord) (s : State) : State := { s with boot := b }

theorem countAt_withBoot (b : BootRecord) (p : Port) (f : Counters → Counters) (s : State) :
    (withBoot b s).countAt p f = withBoot b (s.countAt p f) := by
  cases p <;> rfl

theorem pushMade_withBoot (b : BootRecord) (p : Port) (dest : Byte) (kind : Nat) (d : List Byte) (s : State) :
    (withBoot b s).pushMade p dest kind d = withBoot b (s.pushMade p dest kind d) := by
  cases p <;> rfl

theorem hasRoom_withBoot (b : BootRecord) (p : Port) (s : State) : (withBoot b s).hasRoom p = s.hasRoom p := by
  cases p <;> rfl

theorem recordEvent_withBoot (b : BootRecord) (c : EventClass) (d : List Byte) (s : State) :
    recordEvent c d (withBoot b s) = withBoot b (recordEvent c d s) := rfl

theorem dropNotice_withBoot (b : BootRecord) (s : State) :
    dropNotice (withBoot b s) = withBoot b (dropNotice s) := countAt_withBoot b s.managerPort _ s

theorem raiseNoticeDrop_withBoot (b : BootRecord) (s : State) :
    raiseNoticeDrop (withBoot b s) = withBoot b (raiseNoticeDrop s) := by
  unfold raiseNoticeDrop
  rw [apply_ite (withBoot b), ← recordEvent_withBoot, ← dropNotice_withBoot]
  rfl

theorem sendNotice_withBoot (b : BootRecord) (c : EventClass) (d : List Byte) (s : State) :
    sendNotice c d (withBoot b s) = withBoot b (sendNotice c d s) := by
  unfold sendNotice
  rw [apply_ite (withBoot b), ← raiseNoticeDrop_withBoot, ← dropNotice_withBoot, ← pushMade_withBoot,
    ← hasRoom_withBoot b]
  rfl

theorem raise_withBoot (b : BootRecord) (c : EventClass) (d : List Byte) (s : State) :
    raise c d (withBoot b s) = withBoot b (raise c d s) := by
  unfold raise
  rw [apply_ite (withBoot b), ← sendNotice_withBoot]
  rfl

theorem joinReply_withBoot (b : BootRecord) (p : Port) (dest : Byte) (d : List Byte) (s : State) :
    joinReply p dest d (withBoot b s) = withBoot b (joinReply p dest d s) := by
  unfold joinReply
  rw [apply_ite (withBoot b), hasRoom_withBoot, countAt_withBoot, raise_withBoot, pushMade_withBoot]

theorem joinReplies_withBoot (b : BootRecord) (p : Port) (dest : Byte) (ds : List (List Byte)) (s : State) :
    joinReplies p dest ds (withBoot b s) = withBoot b (joinReplies p dest ds s) := by
  unfold joinReplies
  induction ds generalizing s with
  | nil => rfl
  | cons d ds ih => rw [List.foldl_cons, joinReply_withBoot, ih, List.foldl_cons]

/-- The reply is made, the request leaves the inbox, and the Unit is free (R173). -/
theorem endHandling_eq {s : State} {r : Request} {rest : List Request} {cells : List (List Byte)}
    (inbox : s.mgmt.inbox = r :: rest) (handling : s.mgmt.handling = some cells) :
    endHandling s = { s.replyMade r cells with mgmt := { s.mgmt with inbox := rest, handling := none } } := by
  have kept : (s.replyMade r cells).mgmt = s.mgmt := by rw [← joinReplies_eq, joinReplies_mgmt]
  simp only [endHandling, handling, inbox, joinReplies_eq, kept]

/-- Settles O49: both units offer their reply's cells in turn and are free again. -/
theorem handlingAndServiceEndsReply : Obligations.HandlingAndServiceEndsReply := by
  intro s r rest cells alive
  refine ⟨fun inbox handling writing => ?_, fun queue service => ?_⟩
  · refine (exec_alive alive).trans ?_
    rw [handlingEnd, if_neg (by simp [writing]), endHandling_eq inbox handling]
  · refine (exec_alive alive).trans ?_
    simp only [endService, service, queue, joinReplies_eq]

/-! ### The beginning of a handling -/

/-- The command of a management request begins the handling of its kind, in the states of Table 9-3. -/
structure Handles (c : Instr) (k : Nat) (served : DeviceState → Bool) (act : Request → State → Verdict) : Prop where
  runs : ∀ s, exec c s = whenAlive (beginHandling (isCode k) served act) s
  serves : ∀ d, served d = servedIn k d

/-- The serving states of a kind, state by state. -/
theorem Handles.of {c : Instr} {k : Nat} {served : DeviceState → Bool} {act : Request → State → Verdict}
    (runs : ∀ s, exec c s = whenAlive (beginHandling (isCode k) served act) s)
    (boot : served .boot = servedIn k .boot) (addressing : served .addressing = servedIn k .addressing)
    (configuring : served .configuring = servedIn k .configuring)
    (starting : served .starting = servedIn k .starting) (running : served .running = servedIn k .running) :
    Handles c k served act where
  runs := runs
  serves
    | .boot => boot
    | .addressing => addressing
    | .configuring => configuring
    | .starting => starting
    | .running => running

theorem setAddress_handles : Handles .setAddress 1 inAddressingConfiguring actSetAddress :=
  .of (fun _ => rfl) rfl rfl rfl rfl rfl
theorem identify_handles : Handles .identify 2 identifyServed actIdentify :=
  .of (fun _ => rfl) rfl rfl rfl rfl rfl
theorem forget_handles : Handles .forget 3 inConfiguring actForget :=
  .of (fun _ => rfl) rfl rfl rfl rfl rfl
theorem saveAddress_handles : Handles .saveAddress 4 inConfiguring actSaveAddress :=
  .of (fun _ => rfl) rfl rfl rfl rfl rfl
theorem clockApply_handles : Handles .clockApply 5 inConfiguring actClockApply :=
  .of (fun _ => rfl) rfl rfl rfl rfl rfl
theorem run_handles : Handles .run 6 inConfiguring actRun :=
  .of (fun _ => rfl) rfl rfl rfl rfl rfl
theorem halt_handles : Handles .halt 7 inStartingRunning actHalt :=
  .of (fun _ => rfl) rfl rfl rfl rfl rfl
theorem clear_handles : Handles .clear 8 clearServed actClear :=
  .of (fun _ => rfl) rfl rfl rfl rfl rfl
theorem mapKey_handles : Handles .mapKey 9 inConfiguringRunning actMap :=
  .of (fun _ => rfl) rfl rfl rfl rfl rfl
theorem unmapKey_handles : Handles .unmapKey 10 inConfiguringRunning actUnmap :=
  .of (fun _ => rfl) rfl rfl rfl rfl rfl
theorem readMap_handles : Handles .readMap 11 inConfiguringRunning actReadMap :=
  .of (fun _ => rfl) rfl rfl rfl rfl rfl
theorem writeSource_handles : Handles .writeSource 12 inConfiguringRunning actWriteSource :=
  .of (fun _ => rfl) rfl rfl rfl rfl rfl
theorem readSource_handles : Handles .readSource 13 inConfiguringRunning actReadSource :=
  .of (fun _ => rfl) rfl rfl rfl rfl rfl
theorem writeGroup_handles : Handles .writeGroup 14 inConfiguringRunning actWriteGroup :=
  .of (fun _ => rfl) rfl rfl rfl rfl rfl
theorem readGroup_handles : Handles .readGroup 15 inConfiguringRunning actReadGroup :=
  .of (fun _ => rfl) rfl rfl rfl rfl rfl
theorem inject_handles : Handles .inject 16 inConfiguringRunning actInject :=
  .of (fun _ => rfl) rfl rfl rfl rfl rfl
theorem writeParams_handles : Handles .writeParams 17 inConfiguringRunning actWriteParams :=
  .of (fun _ => rfl) rfl rfl rfl rfl rfl
theorem readParams_handles : Handles .readParams 18 inConfiguringRunning actReadParams :=
  .of (fun _ => rfl) rfl rfl rfl rfl rfl
theorem openSource_handles : Handles .openSource 19 inRunning actOpen :=
  .of (fun _ => rfl) rfl rfl rfl rfl rfl
theorem closeSource_handles : Handles .closeSource 20 inRunning actClose :=
  .of (fun _ => rfl) rfl rfl rfl rfl rfl
theorem reopenSource_handles : Handles .reopenSource 21 inRunning actReopen :=
  .of (fun _ => rfl) rfl rfl rfl rfl rfl
theorem readContext_handles : Handles .readContext 22 inConfiguringRunning actReadContext :=
  .of (fun _ => rfl) rfl rfl rfl rfl rfl
theorem readStatus_handles : Handles .readStatus 23 inConfiguringRunning actReadStatus :=
  .of (fun _ => rfl) rfl rfl rfl rfl rfl
theorem readEvents_handles : Handles .readEvents 24 inConfiguringRunning actReadEvents :=
  .of (fun _ => rfl) rfl rfl rfl rfl rfl
theorem clearEvents_handles : Handles .clearEvents 25 inConfiguringRunning actClearEvents :=
  .of (fun _ => rfl) rfl rfl rfl rfl rfl

section Handling

variable {c : Instr} {k : Nat} {served : DeviceState → Bool} {act : Request → State → Verdict} {s t : State}
  {r : Request} {st : ReplyStatus} {data : List (List Byte)}

/-- A request served is acted on, and the verdict's reply is fixed (R172, R173). -/
theorem Handles.answers (handles : Handles c k served act) (waits : Awaits s r) (kind : r.kind = k)
    (states : served s.mgmt.device = true) (verdict : act r s = ⟨t, st, data⟩) :
    exec c s = .next (t.answer r st data) := by
  rw [handles.runs, whenAlive, if_pos waits.1, beginHandling_code waits kind states, verdict]

/-- A request accepted with a reply of one cell. -/
theorem Handles.accepts {cell : List Byte} (handles : Handles c k served act) (waits : Awaits s r)
    (kind : r.kind = k) (states : served s.mgmt.device = true) (verdict : act r s = accept cell t) :
    exec c s = .next (t.answer r .ok [cell]) := handles.answers waits kind states verdict

/-- A request that its own rule refuses leaves the state but for the reply. -/
theorem Handles.refuses (handles : Handles c k served act) (waits : Awaits s r)
    (kind : r.kind = k) (states : served s.mgmt.device = true) (verdict : act r s = refuse st s) :
    exec c s = .next (s.answer r st [[]]) := handles.answers waits kind states verdict

/-- A request, addressed or broadcast, accepted with a reply for an addressed one (R174). -/
theorem Handles.takes (handles : Handles c k served act) (stands : StandsNext s r) (kind : r.kind = k)
    (states : served s.mgmt.device = true) (verdict : act r s = ⟨t, .ok, data⟩) :
    exec c s = .next (t.accepted r data) := by
  rw [handles.runs, whenAlive, if_pos stands.1, beginHandling_accepts stands kind states verdict]

end Handling

/-! ### Refusals -/

theorem refusalData_eq (r : Request) :
    refusalData r = if r.kind = 9 ∧ 2 ≤ r.args.length then r.args.take 2 else [] := rfl

theorem refusalData_none {r : Request} (kind : r.kind ≠ 9) : refusalData r = [] := by
  rw [refusalData_eq, if_neg fun h => kind h.1]

theorem refuse_range {r : Request} (s : State) (kind : r.kind ≠ 9) :
    refuse .range s = refuseWith .range (refusalData r) s := by
  rw [refusalData_none kind]
  rfl

theorem key_bad {r : Request} (bad : r.BadKey) : r.key 0 = none := by
  obtain zero | high | stream := bad
  · exact if_neg fun h => by omega
  · exact if_neg fun h => by omega
  · exact if_neg fun h => absurd h.2.2 (Nat.not_le.mpr stream)

theorem slot_bad {r : Request} {n : Nat} (bad : 127 < r.arg n 1) : r.slot n = none :=
  dif_neg (by omega)

theorem groupPlace_bad {n : Nat} (bad : n = 0 ∨ 16 < n) : groupPlace n = none := dif_neg (by omega)

theorem classSet_bad {r : Request} (bad : 2 ^ 18 ≤ r.arg 0 3) : r.classSet = none := if_neg (by omega)

theorem actMap_bad {r : Request} (s : State) (bad : r.BadKey ∨ 127 < r.arg 2 1) :
    actMap r s = refuseWith .range (refusalData r) s := by
  unfold actMap
  rcases bad with key | slot
  · rw [key_bad key]
  · rw [slot_bad slot]
    cases r.key 0 <;> rfl

theorem withMapEntry_bad {r : Request} (s : State) (f : Key → Fin 256 → Stored MapEntry → Verdict)
    (bad : r.BadKey) : withMapEntry r s f = refuse .range s := by
  rw [withMapEntry, key_bad bad]

theorem actInject_bad {r : Request} (s : State) (bad : 2 < r.arg 0 1 ∨ (r.arg 0 1 = 1 ∧ 127 < r.arg 1 1) ∨
    (r.arg 0 1 = 2 ∧ (r.arg 1 1 = 0 ∨ 16 < r.arg 1 1))) : actInject r s = refuse .range s := by
  unfold actInject
  rcases bad with table | ⟨source, index⟩ | ⟨group, index⟩
  · dsimp only
    split
    · omega
    · omega
    · omega
    · rfl
  · rw [source]
    exact dif_neg (by omega)
  · rw [group]
    change (match groupPlace (r.arg 1 1) with
      | some i => injectInto s.tables.group[i] (s.setGroup i) s
      | none => refuse .range s) = _
    rw [groupPlace_bad index]

/-- Eleven kinds name no slot, group, key, table or set of classes. -/
theorem noIndex {r : Request} {k : Nat} (kind : r.kind = k) (plain : k ∈ [1, 2, 3, 4, 5, 6, 7, 8, 17, 18, 23]) :
    ¬ r.BadIndex := by
  unfold Request.BadIndex
  rw [kind]
  simp only [List.mem_cons, List.not_mem_nil, or_false] at plain
  split <;> first | omega | exact id

/-- Every management command handles its kind, and refuses a bad index of its request RANGE (R45). -/
theorem mgmtKind_handles {c : Instr} {k : Nat} (kind : mgmtKind c = some k) : ∃ served act,
    Handles c k served act ∧ ∀ r s, r.kind = k → r.BadIndex →
      act r s = refuseWith .range (refusalData r) s := by
  cases c with
  | setAddress => cases kind; exact ⟨_, _, setAddress_handles, fun _ _ h bad => absurd bad (noIndex h (by decide))⟩
  | identify => cases kind; exact ⟨_, _, identify_handles, fun _ _ h bad => absurd bad (noIndex h (by decide))⟩
  | forget => cases kind; exact ⟨_, _, forget_handles, fun _ _ h bad => absurd bad (noIndex h (by decide))⟩
  | saveAddress =>
    cases kind; exact ⟨_, _, saveAddress_handles, fun _ _ h bad => absurd bad (noIndex h (by decide))⟩
  | clockApply => cases kind; exact ⟨_, _, clockApply_handles, fun _ _ h bad => absurd bad (noIndex h (by decide))⟩
  | run => cases kind; exact ⟨_, _, run_handles, fun _ _ h bad => absurd bad (noIndex h (by decide))⟩
  | halt => cases kind; exact ⟨_, _, halt_handles, fun _ _ h bad => absurd bad (noIndex h (by decide))⟩
  | clear => cases kind; exact ⟨_, _, clear_handles, fun _ _ h bad => absurd bad (noIndex h (by decide))⟩
  | writeParams =>
    cases kind; exact ⟨_, _, writeParams_handles, fun _ _ h bad => absurd bad (noIndex h (by decide))⟩
  | readParams => cases kind; exact ⟨_, _, readParams_handles, fun _ _ h bad => absurd bad (noIndex h (by decide))⟩
  | readStatus => cases kind; exact ⟨_, _, readStatus_handles, fun _ _ h bad => absurd bad (noIndex h (by decide))⟩
  | mapKey =>
    cases kind
    exact ⟨_, _, mapKey_handles, fun r s h bad => actMap_bad s (by simpa only [Request.BadIndex, h] using bad)⟩
  | unmapKey =>
    cases kind
    exact ⟨_, _, unmapKey_handles, fun r s h bad => (withMapEntry_bad s _
      (by simpa only [Request.BadIndex, h] using bad)).trans (refuse_range s (by omega))⟩
  | readMap =>
    cases kind
    exact ⟨_, _, readMap_handles, fun r s h bad => (withMapEntry_bad s _
      (by simpa only [Request.BadIndex, h] using bad)).trans (refuse_range s (by omega))⟩
  | writeSource =>
    cases kind
    refine ⟨_, _, writeSource_handles, fun r s h bad => ?_⟩
    rw [actWriteSource, slot_bad (by simpa only [Request.BadIndex, h] using bad)]
    exact refuse_range s (by omega)
  | readSource =>
    cases kind
    refine ⟨_, _, readSource_handles, fun r s h bad => ?_⟩
    rw [actReadSource, slot_bad (by simpa only [Request.BadIndex, h] using bad)]
    exact refuse_range s (by omega)
  | openSource =>
    cases kind
    refine ⟨_, _, openSource_handles, fun r s h bad => ?_⟩
    rw [actOpen, slot_bad (by simpa only [Request.BadIndex, h] using bad)]
    exact refuse_range s (by omega)
  | closeSource =>
    cases kind
    refine ⟨_, _, closeSource_handles, fun r s h bad => ?_⟩
    rw [actClose, slot_bad (by simpa only [Request.BadIndex, h] using bad)]
    exact refuse_range s (by omega)
  | reopenSource =>
    cases kind
    refine ⟨_, _, reopenSource_handles, fun r s h bad => ?_⟩
    rw [actReopen, slot_bad (by simpa only [Request.BadIndex, h] using bad)]
    exact refuse_range s (by omega)
  | readContext =>
    cases kind
    refine ⟨_, _, readContext_handles, fun r s h bad => ?_⟩
    rw [actReadContext, slot_bad (by simpa only [Request.BadIndex, h] using bad)]
    exact refuse_range s (by omega)
  | writeGroup =>
    cases kind
    refine ⟨_, _, writeGroup_handles, fun r s h bad => ?_⟩
    rw [actWriteGroup, Request.groupPlace, groupPlace_bad (by simpa only [Request.BadIndex, h] using bad)]
    exact refuse_range s (by omega)
  | readGroup =>
    cases kind
    refine ⟨_, _, readGroup_handles, fun r s h bad => ?_⟩
    rw [actReadGroup, Request.groupPlace, groupPlace_bad (by simpa only [Request.BadIndex, h] using bad)]
    exact refuse_range s (by omega)
  | inject =>
    cases kind
    exact ⟨_, _, inject_handles, fun r s h bad => (actInject_bad s
      (by simpa only [Request.BadIndex, h] using bad)).trans (refuse_range s (by omega))⟩
  | readEvents =>
    cases kind
    refine ⟨_, _, readEvents_handles, fun r s h bad => ?_⟩
    rw [actReadEvents, classSet_bad (by simpa only [Request.BadIndex, h] using bad)]
    exact refuse_range s (by omega)
  | clearEvents =>
    cases kind
    refine ⟨_, _, clearEvents_handles, fun r s h bad => ?_⟩
    rw [actClearEvents, classSet_bad (by simpa only [Request.BadIndex, h] using bad)]
    exact refuse_range s (by omega)
  | _ => cases kind

/-- A kind that names no request is refused RANGE (R172). -/
theorem beginUnknown_refuses {s : State} {r : Request} (free : s.mgmt.handling = none)
    (next : s.mgmt.inbox.head? = some r) (addressed : r.broadcast = false) (unknown : r.kind = 0 ∨ 31 ≤ r.kind) :
    beginUnknown s = s.answer r .range [[]] := by
  have kind : isUnknownKind r.kind = true := by simpa [isUnknownKind] using unknown
  have need : argNeed r.kind = 0 := by
    unfold argNeed
    split <;> omega
  obtain ⟨rest, inbox⟩ := List.head?_eq_some_iff.mp next
  simp [beginUnknown, beginHandling, free, inbox, kind, addressed, judge, need, refuse, State.answer]

/-- Settles O50: the judgment's order is length, state, index; a kind that names none is RANGE. -/
theorem refusedRequestChangesNothing : Obligations.RefusedRequestChangesNothing := by
  intro s r alive free next addressed data
  refine ⟨fun c k command kind => ?_, fun unknown => ?_⟩
  · obtain ⟨served, act, handles, badIndex⟩ := mgmtKind_handles command
    have isKind : isCode k r.kind = true := by simp [isCode, kind]
    have run : exec c s = .next (beginHandling (isCode k) served act s) := by
      rw [handles.runs, whenAlive, if_pos alive]
    rw [run, ← kind]
    refine ⟨fun short => ?_, fun long states => ?_, fun long states bad => ?_⟩
    · rw [kind, beginHandling_short free next addressed isKind short]
      rfl
    · rw [kind, beginHandling_unserved free next addressed isKind long
        ((handles.serves _).trans (kind ▸ states))]
      rfl
    · rw [kind, Laws.beginHandling_serves ⟨alive, free, next, addressed, long⟩ isKind
        ((handles.serves _).trans (kind ▸ states)), badIndex r s kind bad]
      rfl
  · exact (exec_alive alive).trans (congrArg _ (beginUnknown_refuses free next addressed unknown))

/-! ### The node address and the boot record -/

/-- No toggle due, FORGET's taking leaves the lines. -/
theorem toggles_still {s : State} (a : s.lines.a.due = false) (b : s.lines.b.due = false) :
    toggleB (toggleA s) = s := by
  rw [toggleA, if_neg (by simp [a]), toggleB, if_neg (by simp [b])]

/-- Settles O51. -/
theorem addressRequestsSetTheNode : Obligations.AddressRequestsSetTheNode := by
  intro s r waits
  refine ⟨fun kind device => ⟨fun least most => ?_, fun out => ?_⟩, fun kind device stillA stillB => ?_⟩
  · refine setAddress_handles.accepts waits kind ?_ (if_pos ⟨least, most⟩)
    rcases device with h | h <;> simp [inAddressingConfiguring, h]
  · refine setAddress_handles.refuses waits kind ?_ (if_neg (by omega))
    rcases device with h | h <;> simp [inAddressingConfiguring, h]
  · refine forget_handles.accepts waits kind (by simp [inConfiguring, device]) ?_
    rw [actForget, toggles_still stillA stillB]
    rfl

/-- Settles O48: the write's end comes before the reply's, which does not look at the boot record. -/
theorem saveAddressWritesBootRecord : Obligations.SaveAddressWritesBootRecord := by
  refine ⟨fun s r a waits kind device address => ?_, fun s r rest a cells alive writing inbox handling => ?_⟩
  · refine saveAddress_handles.accepts waits kind (by simp [inConfiguring, device]) ?_
    rw [actSaveAddress, State.ownByte, address]
    rfl
  · let b : BootRecord := { s.boot with address := a, checkGood := true, writing := none }
    refine (exec_alive alive).trans (congrArg _ ?_)
    have written : bootWriteEnd s = endHandling (withBoot b s) := by
      rw [bootWriteEnd, writing]
      rfl
    rw [written, endHandling_eq (s := withBoot b s) inbox handling, ← joinReplies_eq, ← joinReplies_eq,
      joinReplies_withBoot]
    rfl

end Sys2Proof.Proofs
end

section
/-! PROOFS. What the reading requests answer (R27, R50, R54, R57, R102, R181, R182, R192). -/

namespace Sys2Proof.Proofs

open Sys2Proof.Machine Sys2Proof.Laws

theorem configuringRunning_of {s : State} (device : s.mgmt.device = .configuring ∨ s.mgmt.device = .running) :
    inConfiguringRunning s.mgmt.device = true := by
  rcases device with h | h <;> simp [inConfiguringRunning, h]

/-! ### Fields that fill cells (R27) -/

/-- Consecutive fields of a record, from one code on. -/
def fieldRun (f : Nat → List Byte) (a n : Nat) : List (List Byte) := (List.range n).map fun j => f (a + j)

theorem fieldRun_succ (f : Nat → List Byte) (a n : Nat) : fieldRun f a (n + 1) = f a :: fieldRun f (a + 1) n := by
  rw [fieldRun, List.range_succ_eq_map, List.map_cons, List.map_map, fieldRun]
  refine congrArg _ (List.map_congr_left fun j _ => ?_)
  exact congrArg f (by omega)

theorem fieldRun_add (f : Nat → List Byte) (a n m : Nat) :
    fieldRun f a (n + m) = fieldRun f a n ++ fieldRun f (a + n) m := by
  induction n generalizing a with
  | zero => simp [fieldRun]
  | succ n ih =>
    rw [show n + 1 + m = n + m + 1 by omega, fieldRun_succ, fieldRun_succ, ih, List.cons_append,
      show a + 1 + n = a + (n + 1) by omega]

theorem fieldRun_room {f : Nat → List Byte} (four : ∀ c, (f c).length = 4) (a n : Nat) :
    ((fieldRun f a n).map List.length).sum = 4 * n := by
  induction n generalizing a with
  | zero => rfl
  | succ n ih =>
    rw [fieldRun_succ, List.map_cons, List.sum_cons, four, ih]
    omega

/-- Of four-byte fields as many join a cell as it holds, and the next begins another (R27). -/
theorem packFields_run {f : Nat → List Byte} (four : ∀ c, (f c).length = 4) {room n : Nat} (a m : Nat)
    (cell : List Byte) (fits : 4 * n ≤ room) (full : room < 4 * n + 4) :
    packFields room cell (fieldRun f a (n + (m + 1))) =
      (cell ++ (fieldRun f a n).flatten) :: packFields 48 (f (a + n)) (fieldRun f (a + n + 1) m) := by
  rw [fieldRun_add, fieldRun_succ, packFields_split _ _ _ _ _ (by rw [fieldRun_room four]; exact fits)
    (by rw [fieldRun_room four, four]; exact full), four]

/-- A field and the run after it are a run. -/
theorem fieldRun_front (f : Nat → List Byte) (a n : Nat) :
    f a ++ (fieldRun f (a + 1) n).flatten = (fieldRun f a (n + 1)).flatten := by
  rw [fieldRun_succ, List.flatten_cons]

/-- The five cells of the record's 58 four-byte fields (R182). -/
theorem packReply_record {f : Nat → List Byte} (four : ∀ c, (f c).length = 4) :
    packReply (fieldRun f 0 58) = [[0, 5] ++ (fieldRun f 0 12).flatten, 1 :: (fieldRun f 12 13).flatten,
      2 :: (fieldRun f 25 13).flatten, 3 :: (fieldRun f 38 13).flatten, 4 :: (fieldRun f 51 7).flatten] := by
  rw [packReply, packFields_run four (n := 12) 0 45 [] (by omega) (by omega),
    packFields_run four (n := 12) 13 32 _ (by omega) (by omega),
    packFields_run four (n := 12) 26 19 _ (by omega) (by omega),
    packFields_run four (n := 12) 39 6 _ (by omega) (by omega),
    packFields_fits _ _ _ (by rw [fieldRun_room four]; omega)]
  simp only [Nat.zero_add, List.nil_append, fieldRun_front]
  rfl

/-! ### Fields that may be absent (R27) -/

theorem zeros_flatten (fs : List (List Byte)) : (fs.map fun f => f.map fun _ => (0 : Byte)).flatten =
    List.replicate (fs.map List.length).sum 0 := by
  induction fs with
  | nil => rfl
  | cons f fs ih =>
    rw [List.map_cons, List.flatten_cons, ih, List.map_const', List.map_cons, List.sum_cons,
      List.replicate_add]

theorem optionalFields_flatten {fs : List (List Byte)} (some : fs ≠ []) (present : Bool) :
    (optionalFields present fs).flatten =
      if present then 1 :: fs.flatten else List.replicate (1 + (fs.map List.length).sum) 0 := by
  obtain ⟨f, rest, rfl⟩ := List.exists_cons_of_ne_nil some
  cases present with
  | true => rfl
  | false =>
    rw [if_neg (by simp), List.replicate_add, ← zeros_flatten]
    rfl

theorem optionalFields_room {fs : List (List Byte)} (some : fs ≠ []) (present : Bool) :
    ((optionalFields present fs).map List.length).sum = 1 + (fs.map List.length).sum := by
  obtain ⟨f, rest, rfl⟩ := List.exists_cons_of_ne_nil some
  cases present with
  | true =>
    simp only [optionalFields, if_true, List.map_cons, List.sum_cons, List.length_cons]
    omega
  | false =>
    simp only [optionalFields, Bool.false_eq_true, if_false, List.map_cons, List.sum_cons, List.length_cons,
      List.length_map, List.map_map]
    rw [show List.length ∘ (fun g : List Byte => g.map fun _ => (0 : Byte)) = List.length from
      funext fun g => List.length_map _]
    omega

theorem signedBytes_length (w : Nat) (z : Int) : (signedBytes w z).length = w := beBytes_length w _

theorem sourceFields_room (e : SourceEntry) : ((sourceFields e).map List.length).sum = 43 := by
  simp [sourceFields, signedBytes_length]

/-! ### READ_CONTEXT (R102) -/

/-- The anchor of a context in a reply. -/
def anchorBytes (c : Context) : List Byte :=
  match c.anchor with
  | some a => 1 :: (beBytes 5 a.c0 ++ beBytes 6 a.pt0 ++ beBytes 4 a.seq)
  | none => List.replicate 16 0

/-- The working copy of a context in a reply. -/
def copyBytes (c : Context) : List Byte :=
  match c.work with
  | some w => 1 :: (sourceFields w).flatten
  | none => List.replicate 44 0

theorem copyFields_flatten (c : Context) :
    (optionalFields c.work.isSome (sourceFields c.entry)).flatten = copyBytes c := by
  rw [optionalFields_flatten (by simp [sourceFields]), sourceFields_room]
  unfold copyBytes Context.entry
  cases c.work <;> rfl

/-- The three fields of an anchor in a reply, the first with the presence byte. -/
def anchorFields (c : Context) : List (List Byte) :=
  let a := c.anchor.getD ⟨0, 0, 0⟩
  optionalFields c.anchor.isSome [beBytes 5 a.c0, beBytes 6 a.pt0, beBytes 4 a.seq]

theorem anchorFields_flatten (c : Context) : (anchorFields c).flatten = anchorBytes c := by
  unfold anchorFields
  dsimp only
  rw [optionalFields_flatten (by simp)]
  unfold anchorBytes
  cases c.anchor <;> simp

/-- The anchor's fields begin with one of six bytes, and ten follow. -/
theorem anchorFields_cons (c : Context) : ∃ f rest, anchorFields c = f :: rest ∧ f.length = 6 ∧
    (rest.map List.length).sum = 10 := by
  unfold anchorFields optionalFields
  cases c.anchor <;> exact ⟨_, _, rfl, by simp, by simp⟩

/-- The fields of a context from the trim to the marks counter. -/
def workingFields (c : Context) : List (List Byte) :=
  [signedBytes 3 c.trim, signedBytes 2 c.adjust, signedBytes 3 c.effective, beBytes 5 c.lastCount,
    beBytes 6 c.lastArrival, beBytes 6 c.lastConverted, beBytes 1 c.windowCount,
    signedBytes 4 c.windowSum, beBytes 2 c.silence, beBytes 4 c.marks]

/-- The fields of a context after the marks counter. -/
def lateFields (c : Context) : List (List Byte) :=
  [beBytes 4 c.duplicates, beBytes 4 c.slips, beBytes 4 c.jumps,
    [Config.unstatedCode .staleFlag (if c.stale then 1 else 0)],
    [Config.unstatedCode .trimmedFlag (if c.trimmed then 1 else 0)]]

/-- The fields of a context up to the generation. -/
def earlyFields (c : Context) : List (List Byte) :=
  [Config.unstatedCode .contextState (contextNumber c.state)] ::
    (optionalFields c.work.isSome (sourceFields c.entry) ++ [beBytes 4 c.gen])

theorem earlyFields_room (c : Context) : ((earlyFields c).map List.length).sum = 49 := by
  rw [earlyFields, List.map_cons, List.map_append, List.sum_cons, List.sum_append,
    optionalFields_room (by simp [sourceFields]), sourceFields_room]
  simp

theorem workingFields_room (c : Context) : ((workingFields c).map List.length).sum = 36 := by
  simp [workingFields, signedBytes_length]

theorem lateFields_room (c : Context) : ((lateFields c).map List.length).sum = 14 := by
  simp [lateFields]

theorem contextFields_eq (c : Context) : contextFields c =
    earlyFields c ++ (anchorFields c ++ (workingFields c ++ (beBytes 4 c.missed :: lateFields c))) := by
  simp only [contextFields, earlyFields, List.append_assoc, List.cons_append, List.nil_append]
  rfl

/-- The three cells of READ_CONTEXT: the anchor begins the second, the missed counter the third (R27, R102). -/
theorem packReply_context (c : Context) : packReply (contextFields c) = [
    [0, 3, Config.unstatedCode .contextState (contextNumber c.state)] ++ copyBytes c ++ beBytes 4 c.gen,
    1 :: (anchorBytes c ++ (workingFields c).flatten),
    2 :: (beBytes 4 c.missed ++ (lateFields c).flatten)] := by
  obtain ⟨f, rest, fields, first, others⟩ := anchorFields_cons c
  have anchor : f ++ rest.flatten = anchorBytes c := by rw [← anchorFields_flatten, fields, List.flatten_cons]
  have second : ((rest ++ workingFields c).map List.length).sum = 46 := by
    rw [List.map_append, List.sum_append, others, workingFields_room]
  rw [packReply, contextFields_eq, fields, List.cons_append,
    packFields_split _ _ _ _ _ (by rw [earlyFields_room]; omega) (by rw [earlyFields_room, first]; omega), first,
    ← List.append_assoc,
    packFields_split _ _ _ _ _ (by rw [second]) (by rw [second, beBytes_length]; omega), beBytes_length,
    packFields_fits _ _ _ (by rw [lateFields_room]; omega), List.flatten_append, ← List.append_assoc, anchor]
  have early : (earlyFields c).flatten = Config.unstatedCode .contextState (contextNumber c.state) ::
      (copyBytes c ++ beBytes 4 c.gen) := by
    rw [earlyFields, List.flatten_cons, List.flatten_append, copyFields_flatten]
    simp
  rw [early]
  rfl

/-! ### READ_STATUS and READ_EVENTS -/

theorem defaultedCodes_contains (s : State) (c : Nat) :
    (defaultedCodes s).contains c = if h : c < 58 then s.defaulted[c] else false := by
  rw [Bool.eq_iff_iff, List.contains_iff_mem, defaultedCodes, List.mem_filter, List.mem_range]
  by_cases h : c < 58
  · simp [fieldCount, h]
  · simp [fieldCount, h]

theorem flagSet_contains (s : State) (c : Nat) :
    (flagSet s).contains c = if h : c < 18 then s.events[c].flag else false := by
  rw [Bool.eq_iff_iff, List.contains_iff_mem, flagSet, List.mem_map]
  by_cases h : c < 18
  · rw [dif_pos h]
    constructor
    · rintro ⟨i, member, rfl⟩
      simpa using member
    · intro flag
      exact ⟨⟨c, h⟩, by simpa using flag, rfl⟩
  · rw [dif_neg h]
    constructor
    · rintro ⟨i, -, rfl⟩
      exact absurd i.isLt h
    · intro impossible
      simp at impossible

theorem classSet_some {r : Request} (range : r.arg 0 3 < 2 ^ 18) : r.classSet = some (r.arg 0 3) := if_pos range

/-! ### Entries -/

theorem packReply_fits {fs : List (List Byte)} (fits : (fs.map List.length).sum ≤ 51) :
    packReply fs = [[0, 1] ++ fs.flatten] := by
  rw [packReply, packFields_fits _ _ _ fits]
  rfl

theorem withMapEntry_some {r : Request} {s : State} {k : Key} {i : Fin 256} {e : Stored MapEntry}
    (f : Key → Fin 256 → Stored MapEntry → Verdict) (key : r.key 0 = some k) (place : s.keyPosition k = some i)
    (entry : s.mapAt i = some e) : withMapEntry r s f = f k i e := by
  simp only [withMapEntry, key, place, entry]

theorem withMapEntry_none {r : Request} {s : State} {k : Key}
    (f : Key → Fin 256 → Stored MapEntry → Verdict) (key : r.key 0 = some k) (place : s.keyPosition k = none) :
    withMapEntry r s f = refuse .noEntry s := by
  simp only [withMapEntry, key, place]

/-- Settles O52: field by field in the replies' order, the cells divided where a field no longer fits. -/
theorem readingRequestsChangeNothing : Obligations.ReadingRequestsChangeNothing := by
  intro s r waits flag source
  have source_eq (e : SourceEntry) : (sourceFields e).flatten = source e := by
    simp only [sourceFields, List.flatten_cons, List.flatten_nil, List.append_nil, source, List.append_assoc]
    rfl
  refine ⟨fun kind device => ?_, fun device => ?_⟩
  · refine identify_handles.accepts waits kind ?_ rfl
    rcases device with h | h | h <;> simp [identifyServed, inConfiguringRunning, h]
  have serves := configuringRunning_of device
  refine ⟨?_, ?_, ?_, fun i slot => ⟨?_, fun e kind entry => ?_, fun kind empty => ?_⟩,
    fun k kind key => ⟨fun i e place entry => ?_, fun absent => ?_⟩,
    fun i kind group => ⟨fun empty => ?_, fun e entry => ?_⟩⟩
  · intro values kind
    refine readParams_handles.answers waits kind serves ?_
    have record : (List.range fieldCount).map (fun c => beBytes 4 (s.param c)) =
        fieldRun (fun c => beBytes 4 (s.param c)) 0 58 := by
      simp only [fieldRun, Nat.zero_add, fieldCount]
    rw [actReadParams, record, packReply_record fun c => beBytes_length 4 _]
    rfl
  · intro p l counters clockByte kind
    obtain ⟨listed, mask, bits⟩ := maskBytes_bits 8 (defaultedCodes s)
    refine ⟨listed, fun c => (bits c).trans (defaultedCodes_contains s c), by simp [shownUnlisted],
      readStatus_handles.answers waits kind serves ?_⟩
    rw [actReadStatus, mask, generalStatus]
    simp only [List.append_assoc]
    rfl
  · intro record records n kind range
    obtain ⟨flags, mask, bits⟩ := maskBytes_bits 3 (flagSet s)
    refine ⟨flags, fun c => (bits c).trans (flagSet_contains s c), readEvents_handles.answers waits kind serves ?_⟩
    rw [actReadEvents, classSet_some range, mask]
    dsimp only
    rw [recordCells_eq, withPartHeaders_cons]
    rfl
  · intro c copy anchor latency kind
    refine readContext_handles.answers waits kind serves ?_
    have copied : copyBytes c = copy := by
      unfold copyBytes
      simp only [copy]
      cases c.work <;> simp [source_eq]
    have anchored : anchorBytes c = anchor := rfl
    have effective : c.effective = latency + c.adjust := by
      unfold Context.effective Context.entry
      simp only [latency]
      cases c.work <;> rfl
    rw [actReadContext, slot_of_arg r i 0 slot]
    dsimp only
    rw [packReply_context, copied, anchored, workingFields, effective]
    simp only [List.flatten_cons, List.flatten_nil, List.append_nil, List.append_assoc, lateFields]
    rfl
  · refine readSource_handles.answers waits kind serves ?_
    have fits : ((sourceFields e.content ++ [[entryStatusByte e.damaged]]).map List.length).sum ≤ 51 := by
      rw [List.map_append, List.sum_append, sourceFields_room]
      simp
    have cell : [0, 1] ++ (sourceFields e.content ++ [[entryStatusByte e.damaged]]).flatten =
        [0, 1] ++ source e.content ++ [entryStatusByte e.damaged] := by
      rw [List.flatten_append, source_eq, List.append_assoc [0, 1]]
      rfl
    rw [actReadSource, slot_of_arg r i 0 slot]
    dsimp only
    rw [entry]
    dsimp only
    rw [packReply_fits fits, cell]
  · refine readSource_handles.refuses waits kind serves ?_
    rw [actReadSource, slot_of_arg r i 0 slot]
    dsimp only
    rw [empty]
  · exact readMap_handles.accepts waits kind serves (withMapEntry_some _ key place entry)
  · exact readMap_handles.refuses waits kind serves (withMapEntry_none _ key absent)
  · refine readGroup_handles.refuses waits kind serves ?_
    rw [actReadGroup, groupPlace_of_arg r i group]
    dsimp only
    rw [empty]
  · refine readGroup_handles.accepts waits kind serves ?_
    rw [actReadGroup, groupPlace_of_arg r i group]
    dsimp only
    rw [entry]
    rfl

end Sys2Proof.Proofs
end

section
/-! PROOFS. The table requests MAP, UNMAP, WRITE_SOURCE, WRITE_GROUP and INJECT (R45 to R61), and OPEN, CLOSE and REOPEN
of a source (R103 to R106). -/

namespace Sys2Proof.Proofs

open Sys2Proof.Machine Sys2Proof.Laws

/-! ### Live use (R45) -/

theorem slotLive_iff (s : State) (x : Fin 128) :
    slotLive s x = true ↔ s.mgmt.device = .running ∧ (s.ctx x).state ≠ .closed := by
  simp only [slotLive, Bool.and_eq_true, beq_iff_eq, isOpen_iff]

theorem slotLive_false {s : State} {x : Fin 128} (rests : ¬ (s.mgmt.device = .running ∧ (s.ctx x).state ≠ .closed)) :
    slotLive s x = false :=
  Bool.eq_false_iff.mpr fun live => rests ((slotLive_iff s x).mp live)

theorem groupLive_iff (s : State) (g : Nat) :
    groupLive s g = true ↔ s.mgmt.device = .running ∧ ∃ c ∈ s.pairing.claps, c.group = g := by
  simp only [groupLive, Bool.and_eq_true, beq_iff_eq, List.any_eq_true]

/-! ### MAP and UNMAP (R48, R49) -/

theorem actMap_remaps {r : Request} {s : State} {k : Key} {slot : Fin 128} {i : Fin 256} (key : r.key 0 = some k)
    (named : r.arg 2 1 = slot) (place : s.keyPosition k = some i) : actMap r s = remapKey k slot i s := by
  simp only [actMap, key, slot_of_arg r slot 2 named, place]

theorem actMap_news {r : Request} {s : State} {k : Key} {slot : Fin 128} (key : r.key 0 = some k)
    (named : r.arg 2 1 = slot) (place : s.keyPosition k = none) : actMap r s = mapNewKey k slot s := by
  simp only [actMap, key, slot_of_arg r slot 2 named, place]

/-- The last test of a MAP: the slot is another key's, or the entry is written (R48). -/
def mapVerdict (k : Key) (slot : Fin 128) (i : Fin 256) (s : State) : Verdict :=
  if s.slotTaken k slot then refuseWith .slotTaken (keyBytes k) s else writeMap k slot i s

theorem remapKey_live {s : State} {k : Key} {slot : Fin 128} {i : Fin 256} {e : Stored MapEntry}
    (entry : s.mapAt i = some e) (live : slotLive s e.content.slot = true ∨ slotLive s slot = true) :
    remapKey k slot i s = refuseWith .live (keyBytes k) s := by
  simp only [remapKey, entry]
  exact if_pos (by simpa using live)

theorem remapKey_rests {s : State} {k : Key} {slot : Fin 128} {i : Fin 256} {e : Stored MapEntry}
    (entry : s.mapAt i = some e) (old : slotLive s e.content.slot = false) (new : slotLive s slot = false) :
    remapKey k slot i s = mapVerdict k slot i s := by
  simp only [remapKey, entry, old, new]
  rfl

theorem mapNewKey_live {s : State} {k : Key} {slot : Fin 128} (live : slotLive s slot = true) :
    mapNewKey k slot s = refuseWith .live (keyBytes k) s := if_pos live

theorem mapNewKey_full {s : State} {k : Key} {slot : Fin 128} (rests : slotLive s slot = false)
    (full : s.freePosition k = none) : mapNewKey k slot s = refuseWith .setFull (keyBytes k) s := by
  simp only [mapNewKey, rests, full, Bool.false_eq_true, if_false]

theorem mapNewKey_free {s : State} {k : Key} {slot : Fin 128} {i : Fin 256} (rests : slotLive s slot = false)
    (free : s.freePosition k = some i) : mapNewKey k slot s = mapVerdict k slot i s := by
  simp only [mapNewKey, rests, free, Bool.false_eq_true, if_false]
  rfl

/-- A MAP that comes to its last test: SLOT_TAKEN, or the new entry (R48). -/
theorem exec_mapKey_last {s : State} {r : Request} {k : Key} {slot : Fin 128} {i : Fin 256} (waits : Awaits s r)
    (kind : r.kind = 9) (serves : inConfiguringRunning s.mgmt.device = true)
    (verdict : actMap r s = mapVerdict k slot i s) : exec .mapKey s = .next
      (if s.slotTaken k slot then s.answer r .slotTaken [keyBytes k]
        else State.answer (s.setMap i (some ⟨⟨k, slot⟩, true, false⟩)) r .ok
          [keyBytes k ++ [byteOf slot, byteOf i]]) := by
  by_cases taken : s.slotTaken k slot = true
  · rw [if_pos taken]
    exact mapKey_handles.answers waits kind serves (verdict.trans (if_pos taken))
  · rw [if_neg taken]
    exact mapKey_handles.answers waits kind serves (verdict.trans (if_neg taken))

/-- Settles O53: live use first, then a full set, then a slot that is another key's. -/
theorem mapAndUnmapRewriteTheMap : Obligations.MapAndUnmapRewriteTheMap := by
  intro s r k waits key device live
  have serves := configuringRunning_of device
  refine ⟨?_, fun kind => ⟨fun absent => ?_, fun i e place entry => ⟨fun rests => ?_, fun inUse => ?_⟩⟩⟩
  · intro slot kind named written
    refine ⟨fun i e place entry => ⟨fun inUse => ?_, fun old new => ?_⟩,
      fun absent => ⟨fun inUse => ?_, fun rests full => ?_, fun i rests free => ?_⟩⟩
    · refine mapKey_handles.answers waits kind serves
        ((actMap_remaps key named place).trans (remapKey_live entry ?_))
      rwa [slotLive_iff, slotLive_iff]
    · exact exec_mapKey_last waits kind serves ((actMap_remaps key named place).trans
        (remapKey_rests entry (slotLive_false old) (slotLive_false new)))
    · exact mapKey_handles.answers waits kind serves ((actMap_news key named absent).trans
        (mapNewKey_live ((slotLive_iff s slot).mpr inUse)))
    · exact mapKey_handles.answers waits kind serves ((actMap_news key named absent).trans
        (mapNewKey_full (slotLive_false rests) full))
    · exact exec_mapKey_last waits kind serves ((actMap_news key named absent).trans
        (mapNewKey_free (slotLive_false rests) free))
  · exact unmapKey_handles.refuses waits kind serves (withMapEntry_none _ key absent)
  · exact unmapKey_handles.accepts waits kind serves ((withMapEntry_some _ key place entry).trans
      (if_neg (by simp [slotLive_false rests])))
  · exact unmapKey_handles.refuses waits kind serves ((withMapEntry_some _ key place entry).trans
      (if_pos ((slotLive_iff s _).mpr inUse)))

/-! ### Writes clamped into their ranges (R52, R55) -/

theorem clampTo_id {lo hi n : Nat} (least : lo ≤ n) (most : n ≤ hi) : clampTo lo hi n = n := by
  unfold clampTo
  omega

theorem clampTrim_id {limit : Nat} {z : Int} (range : |z| ≤ limit) : clampTrim limit z = z := by
  unfold clampTrim
  rw [abs_le] at range
  omega

theorem tagChar_id {b : Byte} (range : 32 ≤ b.toNat ∧ b.toNat ≤ 126) : tagChar b = b := if_pos range

/-- An entry in its ranges is stored as written (R52). -/
theorem clampedSource_id {w : SourceEntry} (range : w.InRange) : clampedSource w = w := by
  obtain ⟨tag, -, -, -, -, -, -, latency, silence1, silence2, gap1, gap2, window1, window2, gain, lock1, lock2,
    slip1, slip2, limit, trim, adjust, -⟩ := range
  have tags : w.tag.map tagChar = w.tag :=
    (List.map_congr_left (g := id) fun b member => tagChar_id (tag b member)).trans (List.map_id _)
  unfold clampedSource
  rw [clampTo_id lock1 lock2, Nat.min_eq_left limit, tags, Nat.min_eq_left latency, clampTo_id silence1 silence2,
    clampTo_id gap1 gap2, clampTo_id window1 window2, Nat.min_eq_left gain, Nat.min_eq_left adjust]
  dsimp only
  rw [clampTo_id (show w.lockTol + 1 ≤ w.slipTol from slip1) slip2, clampTrim_id trim]

/-- A group entry in its ranges is stored as written (R55). -/
theorem clampedGroup_id {w : GroupEntry} (range : w.InRange) : clampedGroup w = w := by
  obtain ⟨window1, window2, rolling1, rolling2, step, label⟩ := range
  unfold clampedGroup
  rw [clampTo_id window1 window2, clampTo_id rolling1 rolling2, Nat.min_eq_left step, Nat.min_eq_left label]

/-- A write that its own rule accepts: OK, or CLAMPED with the changed fields (R52, R55). -/
theorem Handles.writes {c : Instr} {k : Nat} {served : DeviceState → Bool} {act : Request → State → Verdict}
    {s t : State} {r : Request} {w : Nat} {changed : List Nat} (handles : Handles c k served act)
    (waits : Awaits s r) (kind : r.kind = k) (states : served s.mgmt.device = true)
    (verdict : act r s = writeVerdict w changed t) :
    exec c s = .next (if changed = [] then t.answer r .ok [[]] else t.answer r .clamped [maskBytes w changed]) := by
  by_cases none : changed = []
  · rw [if_pos none]
    exact handles.answers waits kind states (verdict.trans (if_pos none))
  · rw [if_neg none]
    exact handles.answers waits kind states (verdict.trans (if_neg none))

theorem actWriteSource_live {r : Request} {s : State} {i : Fin 128} (slot : r.arg 0 1 = i)
    (live : slotLive s i = true) : actWriteSource r s = refuse .live s := by
  simp only [actWriteSource, slot_of_arg r i 0 slot, live, if_true]

theorem actWriteSource_rests {r : Request} {s : State} {i : Fin 128} (slot : r.arg 0 1 = i)
    (rests : slotLive s i = false) : actWriteSource r s =
      if structuralGood r then writeVerdict 3 (changedFields r.source (clampedSource r.source))
        (s.setSource i (fresh (clampedSource r.source)))
      else refuse .range s := by
  simp only [actWriteSource, slot_of_arg r i 0 slot, rests, Bool.false_eq_true, if_false]

theorem actWriteGroup_live {r : Request} {s : State} {i : Fin 16} (group : r.arg 0 1 = i + 1)
    (live : groupLive s (i + 1) = true) : actWriteGroup r s = refuse .live s := by
  simp only [actWriteGroup, groupPlace_of_arg r i group, live, if_true]

theorem actWriteGroup_rests {r : Request} {s : State} {i : Fin 16} (group : r.arg 0 1 = i + 1)
    (rests : groupLive s (i + 1) = false) : actWriteGroup r s =
      if r.arg 8 1 ≤ 1 then writeVerdict 1 (changedGroup r.group (clampedGroup r.group))
        (s.setGroup i (fresh (clampedGroup r.group)))
      else refuse .range s := by
  simp only [actWriteGroup, groupPlace_of_arg r i group, rests, Bool.false_eq_true, if_false]

/-! ### INJECT (R61) -/

theorem spoil_damaged {α : Type} {e : Stored α} (damaged : e.damaged = true) : spoil e = some e := by
  obtain ⟨content, good, _⟩ := e
  subst damaged
  simp [spoil]

theorem spoil_valid {α : Type} {e : Stored α} (valid : e.damaged = false) :
    spoil e = some { e with checkGood := false } := by
  simp [spoil, valid]

theorem setMap_same {s : State} {i : Fin 256} {e : Option (Stored MapEntry)} (entry : s.mapAt i = e) :
    s.setMap i e = s := by
  subst entry
  simp [State.setMap, State.mapAt]

theorem setSource_same {s : State} {i : Fin 128} {e : Option (Stored SourceEntry)} (entry : s.sourceAt i = e) :
    s.setSource i e = s := by
  subst entry
  simp [State.setSource, State.sourceAt]

theorem setGroup_same {s : State} {i : Fin 16} {e : Option (Stored GroupEntry)} (entry : s.tables.group[i] = e) :
    s.setGroup i e = s := by
  subst entry
  simp [State.setGroup]

/-- INJECT into an entry: a VALID one loses its check, a DAMAGED one stays (R61). -/
theorem injectInto_some {α : Type} {s : State} {e : Stored α} {put : Option (Stored α) → State}
    (same : put (some e) = s) : injectInto (some e) put s =
      accept [] (if e.damaged then s else put (some { e with checkGood := false })) := by
  change accept [] (put (spoil e)) = _
  by_cases damaged : e.damaged = true
  · rw [if_pos damaged, spoil_damaged damaged, same]
  · rw [if_neg damaged, spoil_valid (by simpa using damaged)]

theorem actInject_map {r : Request} {i : Fin 256} (s : State) (table : r.arg 0 1 = 0) (index : r.arg 1 1 = i) :
    actInject r s = injectInto (s.mapAt i) (s.setMap i) s := by
  have place (h : r.arg 1 1 < 256) : (⟨r.arg 1 1, h⟩ : Fin 256) = i := Fin.ext index
  rw [actInject, table]
  exact (dif_pos (by omega)).trans (by rw [place])

theorem actInject_source {r : Request} {i : Fin 128} (s : State) (table : r.arg 0 1 = 1) (index : r.arg 1 1 = i) :
    actInject r s = injectInto (s.sourceAt i) (s.setSource i) s := by
  have place (h : r.arg 1 1 < 128) : (⟨r.arg 1 1, h⟩ : Fin 128) = i := Fin.ext index
  rw [actInject, table]
  exact (dif_pos (by omega)).trans (by rw [place])

theorem actInject_group {r : Request} {i : Fin 16} (s : State) (table : r.arg 0 1 = 2)
    (index : r.arg 1 1 = i + 1) : actInject r s = injectInto s.tables.group[i] (s.setGroup i) s := by
  have place : groupPlace (r.arg 1 1) = some i := by
    rw [groupPlace, dif_pos (by omega)]
    exact congrArg some (Fin.ext (by simp [index]))
  simp only [actInject, table, place]

/-- Settles O54: live use first, then the structural fields; INJECT through the entry that it names. -/
theorem tableWritesStoreClamped : Obligations.TableWritesStoreClamped := by
  intro s r waits device
  have serves := configuringRunning_of device
  have long := waits.2.2.2.2
  refine ⟨fun i kind slot => ⟨fun run opened => ?_, ?_⟩, ?_, fun i kind group run inUse => ?_,
    fun i kind table index => ⟨fun empty => ?_, fun e entry => ?_⟩,
    fun i kind table index => ⟨fun empty => ?_, fun e entry => ?_⟩,
    fun i kind table index => ⟨fun empty => ?_, fun e entry => ?_⟩⟩
  · exact writeSource_handles.refuses waits kind serves
      (actWriteSource_live slot ((slotLive_iff s i).mpr ⟨run, opened⟩))
  · intro free w lock limit e s1
    have rests : slotLive s i = false := slotLive_false (by rcases free with h | h <;> simp [h])
    refine ⟨fun good => ⟨?_, ?_, ?_⟩, fun bad => ?_⟩
    · exact writeSource_handles.writes waits kind serves ((actWriteSource_rests slot rests).trans (if_pos good))
    · rw [kind] at long
      exact clampedSource_inRange (le_trans (by decide) long) good
    · exact fun range => clampedSource_id range
    · exact writeSource_handles.refuses waits kind serves
        ((actWriteSource_rests slot rests).trans (if_neg (by simp [bad])))
  · intro i kind group free w e s1
    have rests : groupLive s (i + 1) = false := Bool.eq_false_iff.mpr fun live => by
      obtain ⟨run, c, member, same⟩ := (groupLive_iff s (i + 1)).mp live
      rcases free with configuring | apart
      · simp [configuring] at run
      · exact apart c member same
    refine ⟨fun good => ⟨?_, clampedGroup_inRange w, fun range => clampedGroup_id range⟩, fun bad => ?_⟩
    · exact writeGroup_handles.writes waits kind serves ((actWriteGroup_rests group rests).trans (if_pos good))
    · exact writeGroup_handles.refuses waits kind serves
        ((actWriteGroup_rests group rests).trans (if_neg (by omega)))
  · exact writeGroup_handles.refuses waits kind serves
      (actWriteGroup_live group ((groupLive_iff s _).mpr ⟨run, inUse⟩))
  · exact inject_handles.refuses waits kind serves (by rw [actInject_map s table index, empty]; rfl)
  · refine inject_handles.accepts waits kind serves ?_
    rw [actInject_map s table index, entry, injectInto_some (setMap_same entry)]
  · exact inject_handles.refuses waits kind serves (by rw [actInject_source s table index, empty]; rfl)
  · refine inject_handles.accepts waits kind serves ?_
    rw [actInject_source s table index, entry, injectInto_some (setSource_same entry)]
  · exact inject_handles.refuses waits kind serves (by rw [actInject_group s table index, empty]; rfl)
  · refine inject_handles.accepts waits kind serves ?_
    rw [actInject_group s table index, entry, injectInto_some (setGroup_same entry)]

/-! ### OPEN, CLOSE and REOPEN (R103 to R106) -/

theorem openContext_eq (slot : Fin 128) (w : SourceEntry) (s : State) :
    openContext slot w s = s.setCtx slot ((s.ctx slot).openedWith w) := rfl

/-- The generation that an open gives is the next (R103). -/
theorem openContext_gen (slot : Fin 128) (w : SourceEntry) (s : State) :
    ((openContext slot w s).ctx slot).gen = ((s.ctx slot).gen + 1) % 2 ^ 32 := by
  rw [openContext_eq, setCtx_ctx_same]
  rfl

/-- An entry that is absent or DAMAGED opens nothing (R53). -/
theorem validSource_missing {s : State} {i : Fin 128}
    (missing : s.sourceAt i = none ∨ ∃ w, s.sourceAt i = some w ∧ w.damaged = true) : validSource s i = none := by
  rcases missing with empty | ⟨w, entry, damaged⟩
  · simp [validSource, validContent, empty]
  · simp [validSource, validContent, entry, damaged]

theorem validSource_stored {s : State} {i : Fin 128} {w : Stored SourceEntry} (entry : s.sourceAt i = some w)
    (valid : w.damaged = false) : validSource s i = some w.content := by
  simp [validSource, validContent, entry, valid]

section Sources

variable {r : Request} {s : State} {i : Fin 128} {e : SourceEntry}

theorem actOpen_missing (slot : r.arg 0 1 = i) (closed : (s.ctx i).isOpen = false)
    (missing : validSource s i = none) : actOpen r s = refuse .noEntry s := by
  simp only [actOpen, slot_of_arg r i 0 slot, closed, missing, Bool.false_eq_true, if_false]

theorem actOpen_valid (slot : r.arg 0 1 = i) (closed : (s.ctx i).isOpen = false)
    (valid : validSource s i = some e) : actOpen r s =
      accept (beBytes 4 ((openContext i e s).ctx i).gen) (openContext i e s) := by
  simp only [actOpen, slot_of_arg r i 0 slot, closed, valid, Bool.false_eq_true, if_false]

theorem actReopen_missing (slot : r.arg 0 1 = i) (missing : validSource s i = none) :
    actReopen r s = refuse .noEntry s := by
  simp only [actReopen, slot_of_arg r i 0 slot, missing]

theorem actReopen_closed (slot : r.arg 0 1 = i) (closed : (s.ctx i).isOpen = false)
    (valid : validSource s i = some e) : actReopen r s =
      accept (beBytes 4 ((openContext i e s).ctx i).gen) (openContext i e s) := by
  simp only [actReopen, slot_of_arg r i 0 slot, closed, valid, Bool.false_eq_true, if_false]

theorem actReopen_open (slot : r.arg 0 1 = i) (opened : (s.ctx i).isOpen = true)
    (valid : validSource s i = some e) : actReopen r s =
      accept (beBytes 4 ((openContext i e (closeContext i s)).ctx i).gen) (openContext i e (closeContext i s)) := by
  simp only [actReopen, slot_of_arg r i 0 slot, opened, valid, if_true]

end Sources

/-- Settles O56: the context's state first for OPEN and CLOSE, the entry first for REOPEN. -/
theorem sourceRequestsOpenAndClose : Obligations.SourceRequestsOpenAndClose := by
  intro s r i waits run slot c waiting gen
  have serves : inRunning s.mgmt.device = true := by simp [inRunning, run]
  have closed_iff : c.isOpen = false ↔ c.state = .closed := by
    rw [Bool.eq_false_iff, ne_eq, isOpen_iff, not_not]
  have opens (w : SourceEntry) : accept (beBytes 4 ((openContext i w s).ctx i).gen) (openContext i w s) =
      accept gen (s.setCtx i (c.openedWith w)) := by
    rw [openContext_gen, openContext_eq]
  refine ⟨fun kind => ⟨fun opened => ?_, fun w closed entry => ?_, fun closed empty => ?_⟩,
    fun kind => ⟨fun closed => ?_, fun opened => ?_⟩,
    fun kind => ⟨fun missing => ?_, fun w closed entry valid => ?_, fun w opened entry valid => ?_⟩⟩
  · refine openSource_handles.refuses waits kind serves ?_
    rw [actOpen, slot_of_arg r i 0 slot]
    exact if_pos ((isOpen_iff c).mpr opened)
  · by_cases damaged : w.damaged = true
    · rw [if_pos damaged]
      exact openSource_handles.refuses waits kind serves
        (actOpen_missing slot (closed_iff.mpr closed) (validSource_missing (.inr ⟨w, entry, damaged⟩)))
    · rw [if_neg damaged]
      exact openSource_handles.accepts waits kind serves ((actOpen_valid slot (closed_iff.mpr closed)
        (validSource_stored entry (by simpa using damaged))).trans (opens w.content))
  · exact openSource_handles.refuses waits kind serves
      (actOpen_missing slot (closed_iff.mpr closed) (validSource_missing (.inl empty)))
  · refine closeSource_handles.refuses waits kind serves ?_
    rw [actClose, slot_of_arg r i 0 slot]
    exact if_neg (by simp [closed_iff.mpr closed, c])
  · obtain ⟨order, perm, closes⟩ := closeContext_eq i s
    refine ⟨order, perm, closeSource_handles.accepts waits kind serves ?_⟩
    rw [actClose, slot_of_arg r i 0 slot, ← closes]
    exact if_pos ((isOpen_iff c).mpr opened)
  · exact reopenSource_handles.refuses waits kind serves (actReopen_missing slot (validSource_missing missing))
  · exact reopenSource_handles.accepts waits kind serves ((actReopen_closed slot (closed_iff.mpr closed)
      (validSource_stored entry valid)).trans (opens w.content))
  · obtain ⟨order, perm, closes⟩ := closeContext_eq i s
    refine ⟨order, perm, reopenSource_handles.accepts waits kind serves
      ((actReopen_open slot ((isOpen_iff c).mpr opened) (validSource_stored entry valid)).trans ?_)⟩
    rw [openContext_gen, openContext_eq, closeContext_ctx, if_pos rfl, ← closes, closeContext_ctx, if_pos rfl]

end Sys2Proof.Proofs
end

section
/-! PROOFS. Captures of the clock and the run class (R11, R182, R183), WRITE_PARAMS and its live fields (R182, R184),
CLEAR_EVENTS (R191), and RUN (R176). -/

namespace Sys2Proof.Proofs

open Sys2Proof.Machine Sys2Proof.Laws

/-! ### Captures -/

/-- A capture from the old clock class to the new restarts the Reference Monitor (R11). -/
abbrev RestartsMonitor (o p : ClockParams) : Prop :=
  p.externalRef = false ∨ o.externalRef = false ∨ p.rate ≠ o.rate ∨ p.divisor ≠ o.divisor

theorem captureRestarts_iff (o p : ClockParams) : captureRestarts o p = true ↔ RestartsMonitor o p := by
  simp [captureRestarts, RestartsMonitor, or_assoc]

/-- The defaulted-field list after a capture of the clock class (R183). -/
theorem rewriteDefaulted_clock (s : State) (bad : List Nat) :
    rewriteDefaulted [0, 1, 2, 3, 4, 5, 6, 7] bad s.defaulted = s.listedAfter 8 bad := by
  ext i hi
  have rewritten := rewriteDefaulted_get [0, 1, 2, 3, 4, 5, 6, 7] bad s.defaulted ⟨i, hi⟩
  have below : i ∈ [0, 1, 2, 3, 4, 5, 6, 7] ↔ i < 8 := by
    simp only [List.mem_cons, List.not_mem_nil, or_false]
    omega
  simp only [Fin.getElem_fin, below] at rewritten
  rw [rewritten, State.listedAfter, Vector.getElem_ofFn]
  rfl

/-- The clock class captured, spelled out (R1, R11, R183). -/
theorem captureClock_eq (s : State) : captureClock s = { s with
    clock := { s.clock with
      params := s.clockCaptured
      state := if s.clockCaptured.externalRef = false then .free
        else if RestartsMonitor s.clock.params s.clockCaptured then .seeking else s.clock.state }
    monitor := if RestartsMonitor s.clock.params s.clockCaptured then
        { last := none, good := 0, bad := 0, missing := false, armed := true, noise := s.monitor.noise }
      else s.monitor
    defaulted := s.listedAfter 8 s.clockDefaulted } := by
  have state : capturedState s.clock.params s.clockCaptured s.clock.state =
      if s.clockCaptured.externalRef = false then .free
      else if RestartsMonitor s.clock.params s.clockCaptured then .seeking else s.clock.state := by
    simp only [capturedState, captureRestarts_iff, Bool.not_eq_true']
  unfold captureClock
  rw [clockInUse_eq, clockInvalid_eq, rewriteDefaulted_clock]
  simp only [state, captureRestarts_iff]
  rfl

/-- A field with the values 0 and 1, 0 its default, decides between two values (R183). -/
theorem inUse_switch {α : Type} {c : Nat} (s : State) (range : fieldRange c = (0, 1)) (zero : defaultParam c = 0)
    (off on : α) : (if s.inUse c = 0 then off else on) = if s.param c = 1 then on else off := by
  rw [inUse_eq s range zero, orDefault]
  by_cases one : s.param c = 1
  · simp [one]
  · rw [if_neg one]
    refine if_pos ?_
    split <;> omega

/-- The run class captured under the clock class captured with it, spelled out (R5, R18, R65, R165, R183). -/
theorem captureRun_eq {s : State} (clock : s.clock.params = s.clockCaptured) : captureRun s = { s with
    settings := {
      epochIndex := if s.runDefaulted.contains 8 then 0
        else indexOfLabel s.clockCaptured (readLabel (beBytes 4 (s.param 8)))
      tickInterval := orDefault 0 255 24 (s.param 9), scrubRate := orDefault 0 16 4 (s.param 10)
      sourceAction := if s.param 12 = 1 then .close else .keep
      mapAction := if s.param 13 = 1 then .use else .ignore }
    pairing := { s.pairing with policy := if s.param 11 = 1 then .keepFirst else .shift }
    defaulted := rewriteDefaulted [8, 9, 10, 11, 12, 13] s.runDefaulted s.defaulted } := by
  have epoch : capturedEpoch s s.clockCaptured = if s.runDefaulted.contains 8 then 0
      else indexOfLabel s.clockCaptured (readLabel (beBytes 4 (s.param 8))) := by
    rw [capturedEpoch, runDefaulted_epoch]
    change (if labelValid s.clockCaptured (readLabel (beBytes 4 (s.param 8))) = true then _ else 0) = _
    cases labelValid s.clockCaptured (readLabel (beBytes 4 (s.param 8))) <;> rfl
  unfold captureRun
  rw [clock]
  dsimp only
  rw [runInvalid_eq, epoch, inUse_eq s (rfl : fieldRange 9 = (0, 255)) (rfl : _ = 24),
    inUse_eq s (rfl : fieldRange 10 = (0, 16)) (rfl : _ = 4),
    inUse_switch s (rfl : fieldRange 11 = (0, 1)) rfl, inUse_switch s (rfl : fieldRange 12 = (0, 1)) rfl,
    inUse_switch s (rfl : fieldRange 13 = (0, 1)) rfl]

theorem raiseDefaulted_eq (codes : List Nat) (s : State) : raiseDefaulted codes s = s.setupDefaulted codes := rfl

/-! ### WRITE_PARAMS -/

/-- The record after the first pairs of a write: each field as last written among them (R182). -/
def recordAfter (s : State) (pairs : List (Byte × BitVec 32)) (n : Nat) : Vector (BitVec 32) fieldCount :=
  Vector.ofFn fun c : Fin 58 =>
    match ((pairs.take n).filter fun x => x.1.toNat == (c : Nat)).getLast? with
    | some x => x.2
    | none => s.paramRecord[c]

theorem recordAfter_zero (s : State) (pairs : List (Byte × BitVec 32)) : recordAfter s pairs 0 = s.paramRecord := by
  ext i hi
  simp [recordAfter]

theorem recordAfter_succ (s : State) (pairs : List (Byte × BitVec 32)) (n : Nat) (inside : n < pairs.length)
    (names : pairs[n].1.toNat < 58) :
    recordAfter s pairs (n + 1) = (recordAfter s pairs n).set pairs[n].1.toNat pairs[n].2 names := by
  ext i hi
  have last : pairs.take (n + 1) = pairs.take n ++ [pairs[n]] := by
    rw [List.take_add_one, List.getElem?_eq_getElem inside, Option.toList_some]
  simp only [recordAfter, Vector.getElem_ofFn, Vector.getElem_set, last, List.filter_append, List.filter_cons,
    List.filter_nil, beq_iff_eq]
  by_cases same : pairs[n].1.toNat = i
  · simp [same]
  · simp [same]

/-- The lines after the first pairs of a write: a line whose enable was off after one of them is disabled (R21). -/
def lineAfter (s : State) (pairs : List (Byte × BitVec 32)) (code : Nat) (high : Bool) (x : LineState) (n : Nat) :
    LineState :=
  if ∀ k < n, (withRecord s (recordAfter s pairs (k + 1))).inUse code = 1 then x else disabledAt high x

/-- Every pair of a write stored, the lines following pair by pair (R21, R182). -/
theorem storeFields_all {s : State} {pairs : List (Byte × BitVec 32)} (some : pairs ≠ [])
    (named : ∀ x ∈ pairs, x.1.toNat < 58) :
    (pairs.map fun x => (x.1.toNat, x.2.toNat)).foldl (fun s x => storeField x s) s =
      { withRecord s (recordAfter s pairs pairs.length) with lines := { s.lines with
          a := lineAfter s pairs 53 true s.lines.a pairs.length
          b := besideA s.lines.mode (lineAfter s pairs 53 true s.lines.a pairs.length)
            (lineAfter s pairs 54 false s.lines.b pairs.length) } } := by
  obtain ⟨n, count⟩ := Nat.exists_eq_succ_of_ne_zero (mt List.length_eq_zero_iff.mp some)
  have stored := storeFields_eq s pairs named (recordAfter s pairs) (recordAfter_zero s pairs)
    (fun n inside => recordAfter_succ s pairs n inside _) (lineAfter s pairs 53 true s.lines.a)
    (lineAfter s pairs 54 false s.lines.b) (fun _ => rfl) (fun _ => rfl) n (le_of_eq count.symm)
  rw [List.foldl_map, count]
  rwa [List.take_of_length_le (le_of_eq count)] at stored

/-- The live fields that the pairs of a write name (R184). -/
def liveCode (pairs : List (Byte × BitVec 32)) (c : Nat) : Bool :=
  decide (14 ≤ c) && pairs.any fun x => x.1.toNat == c

theorem liveNamed_eq (pairs : List (Byte × BitVec 32)) :
    liveNamed (pairs.map fun x => (x.1.toNat, x.2.toNat)) = (List.range 58).filter (liveCode pairs) := by
  unfold liveNamed liveCode
  refine List.filter_congr fun c _ => ?_
  rw [List.any_map]
  rfl

theorem liveInvalid_eq (pairs : List (Byte × BitVec 32)) (t : State) :
    ((List.range 58).filter (liveCode pairs)).filter (fun c => !fieldValid c (t.param c)) =
      (List.range 58).filter fun c => liveCode pairs c && !liveValid c (t.param c) := by
  rw [List.filter_filter]
  refine List.filter_congr fun c _ => ?_
  cases live : liveCode pairs c with
  | false => simp
  | true =>
    simp only [liveCode, Bool.and_eq_true, decide_eq_true_eq] at live
    rw [liveValid_eq c _ live.1, Bool.and_comm]

/-- The defaulted-field list after a write: the live fields that it names are judged anew (R184). -/
theorem rewriteDefaulted_live (pairs : List (Byte × BitVec 32)) (t : State) (v : Vector Bool fieldCount) :
    rewriteDefaulted ((List.range 58).filter (liveCode pairs))
      ((List.range 58).filter fun c => liveCode pairs c && !liveValid c (t.param c)) v =
    Vector.ofFn fun c : Fin 58 => if liveCode pairs c then !liveValid c (t.param c) else v[c] := by
  ext i hi
  have rewritten := rewriteDefaulted_get ((List.range 58).filter (liveCode pairs))
    ((List.range 58).filter fun c => liveCode pairs c && !liveValid c (t.param c)) v ⟨i, hi⟩
  simp only [Fin.getElem_fin] at rewritten
  rw [rewritten, Vector.getElem_ofFn]
  have inside : i < 58 := hi
  cases live : liveCode pairs i with
  | false => simp [live]
  | true =>
    rw [if_pos (by simp [live, inside]), if_pos rfl, Bool.eq_iff_iff, List.contains_iff_mem, List.mem_filter]
    simp [live, inside]

theorem reset_param (c : Fin 58) : State.reset.param c = defaultParam c := by
  have written : State.reset.param c = (BitVec.ofNat 32 (defaultParam c)).toNat := by simp [State.param, State.reset]
  rw [written]
  revert c
  decide

/-- A live field's value in use: as written, or its default (R184). -/
theorem inUse_live (t : State) (c : Fin 58) (live : 14 ≤ (c : Nat)) :
    t.inUse c = if liveValid c (t.param c) then t.param c else State.reset.param c := by
  rw [State.inUse, liveValid_eq c _ live, reset_param]

theorem actWriteParams_refuses {r : Request} {s : State} {pairs : List (Byte × BitVec 32)}
    (args : paramPairs r.args = pairs.map fun x => (x.1.toNat, x.2.toNat)) (unknown : ∃ x ∈ pairs, 58 ≤ x.1.toNat) :
    actWriteParams r s = refuse .range s := by
  obtain ⟨x, member, high⟩ := unknown
  refine if_neg fun all => ?_
  rw [args, List.all_map, List.all_eq_true] at all
  have named := all x member
  simp only [Function.comp, fieldCount, decide_eq_true_eq] at named
  omega

theorem actWriteParams_writes {r : Request} {s : State} {pairs : List (Byte × BitVec 32)}
    (args : paramPairs r.args = pairs.map fun x => (x.1.toNat, x.2.toNat)) (named : ∀ x ∈ pairs, x.1.toNat < 58) :
    actWriteParams r s = accept [] (writeFields (pairs.map fun x => (x.1.toNat, x.2.toNat)) s) := by
  unfold actWriteParams
  rw [args]
  refine if_pos ?_
  rw [List.all_map, List.all_eq_true]
  exact fun x member => decide_eq_true (named x member)

/-- The alarm line after the events were replaced, and nothing else (R193). -/
theorem evalFault_replaced (s : State) (v : Vector EventState 18) :
    let t := State.evalFault { s with events := v }
    t.faultn = t.alarmRaised ∧ t = { s with events := t.events, faultn := t.faultn } := ⟨rfl, rfl⟩

/-- Settles O55: the pairs are stored in order and then judged; the captures and the clear by their own rules. -/
theorem paramsClockAndEventRequests : Obligations.ParamsClockAndEventRequests := by
  refine ⟨fun s r pairs extra waits kind device some short args => ?_, fun s r stands kind device => ?_,
    fun s r waits kind device range => ?_⟩
  · have serves := configuringRunning_of device
    have carried : paramPairs r.args = pairs.map fun x => (x.1.toNat, x.2.toNat) :=
      args ▸ paramPairs_many pairs extra short
    refine ⟨fun unknown => writeParams_handles.refuses waits kind serves (actWriteParams_refuses carried unknown), ?_⟩
    intro named wrote t live bad a b u
    refine ⟨writeParams_handles.accepts waits kind serves ((actWriteParams_writes carried named).trans ?_),
      fun c high => inUse_live t c high⟩
    have written : writeFields (pairs.map fun x => (x.1.toNat, x.2.toNat)) s = raiseDefaulted bad u :=
      writeFields_eq s _ t _ bad _ (storeFields_all some named)
        ((congrArg _ (liveNamed_eq pairs)).trans (liveInvalid_eq pairs t))
        ((congrArg (fun l => rewriteDefaulted l bad t.defaulted) (liveNamed_eq pairs)).trans
          (rewriteDefaulted_live pairs t t.defaulted))
    rw [written, raiseDefaulted_eq]
  · intro p bad o restarts
    refine clockApply_handles.takes stands kind (by simp [inConfiguring, device]) ?_
    rw [actClockApply, clockInvalid_eq, captureClock_eq]
    rfl
  · have serves := configuringRunning_of device
    refine ⟨clearClasses (r.arg 0 3) s, clearEvents_handles.accepts waits kind serves ?_,
      fun i => clearClasses_events (r.arg 0 3) s i, evalFault_replaced s _⟩
    rw [actClearEvents, classSet_some range]
    rfl

/-! ### RUN (R176) -/

/-- The parameter record alone decides what a capture takes and what it defaults. -/
theorem clockCaptured_congr {s t : State} (same : t.paramRecord = s.paramRecord) :
    t.clockCaptured = s.clockCaptured ∧ t.clockDefaulted = s.clockDefaulted ∧ t.runDefaulted = s.runDefaulted := by
  have params : t.param = s.param := by
    unfold State.param
    rw [same]
  refine ⟨?_, ?_, ?_⟩
  · unfold State.clockCaptured
    rw [params]
  · unfold State.clockDefaulted
    rw [params]
  · unfold State.runDefaulted State.clockCaptured
    rw [params]

/-- The fields that the two captures of a RUN default (R183). -/
theorem startedInvalid_eq (s : State) :
    let t := captureClock (enterStarting s)
    clockInvalid t ++ runInvalid t t.clock.params = s.clockDefaulted ++ s.runDefaulted := by
  intro t
  obtain ⟨captured, invalid, invalidRun⟩ := clockCaptured_congr (t := t) (s := s) rfl
  have params : t.clock.params = t.clockCaptured := by
    rw [captured]
    exact clockInUse_eq s
  rw [params, runInvalid_eq, clockInvalid_eq, invalid, invalidRun]

/-- STARTING entered with both classes captured (R101, R128, R165, R176, R183). -/
theorem startedCaptured_eq (s : State) : captureRun (captureClock (enterStarting s)) = { s with
    mgmt := { s.mgmt with device := .starting }
    log := { entries := [], nextSeq := 0 }
    pairing := { takes := [], claps := [], held := [], nextTake := 1
                 policy := if s.param 11 = 1 then .keepFirst else .shift }
    contexts := s.contexts.map fun c => { c with trimmed := false, stale := false }
    tables := { s.tables with scrubPos := 0, walk := .checking 0 s.clock.now }
    clock := { s.clock with
      pt := 0, hold := 0, params := s.clockCaptured
      state := if s.clockCaptured.externalRef = false then .free
        else if RestartsMonitor s.clock.params s.clockCaptured then .seeking else s.clock.state }
    monitor := if RestartsMonitor s.clock.params s.clockCaptured then
        { last := none, good := 0, bad := 0, missing := false, armed := true, noise := s.monitor.noise }
      else s.monitor
    settings := { epochIndex := if s.runDefaulted.contains 8 then 0
                    else indexOfLabel s.clockCaptured (readLabel (beBytes 4 (s.param 8)))
                  tickInterval := orDefault 0 255 24 (s.param 9), scrubRate := orDefault 0 16 4 (s.param 10)
                  sourceAction := if s.param 12 = 1 then .close else .keep
                  mapAction := if s.param 13 = 1 then .use else .ignore }
    tick := { s.tick with due := false }
    portS := { s.portS with header := s.portS.header.map fun h => { h with beforeStarting := true } }
    portP := { s.portP with header := s.portP.header.map fun h => { h with beforeStarting := true } }
    defaulted := s.listedAfter 14 (s.clockDefaulted ++ s.runDefaulted) } := by
  let entered := enterStarting s
  let t := captureClock entered
  obtain ⟨enteredCaptured, enteredInvalid, -⟩ := clockCaptured_congr (t := entered) (s := s) rfl
  obtain ⟨captured, -, invalidRun⟩ := clockCaptured_congr (t := t) (s := s) rfl
  have params : t.clock.params = t.clockCaptured := by
    rw [captured]
    exact clockInUse_eq s
  have listed : rewriteDefaulted [8, 9, 10, 11, 12, 13] s.runDefaulted t.defaulted =
      s.listedAfter 14 (s.clockDefaulted ++ s.runDefaulted) := by
    rw [← rewriteDefaulted_both s s.defaulted rfl, ← enteredInvalid, ← clockInvalid_eq]
    rfl
  have clocked := captureClock_eq entered
  rw [enteredCaptured] at clocked
  change captureRun t = _
  rw [captureRun_eq params, captured, invalidRun, listed, show t = _ from clocked]
  rfl

/-- Settles O57: the locate queue ends, STARTING is entered, and then both classes are captured. -/
theorem runEntersStarting : Obligations.RunEntersStarting := by
  intro s r stands kind device s1 p bad o restarts
  refine run_handles.takes stands kind (by simp [inConfiguring, device]) ?_
  obtain ⟨events, faultn, portS, portP, stop⟩ : ∃ events faultn portS portP, s1 = { s with
      events := events, faultn := faultn, portS := portS, portP := portP
      locate := { queue := [], service := none } } := ⟨_, _, _, _, stopped_eq s⟩
  have run : actRun r s = accept (maskBytes 2 (s1.clockDefaulted ++ s1.runDefaulted))
      (raiseDefaulted (s1.clockDefaulted ++ s1.runDefaulted) (captureRun (captureClock (enterStarting s1)))) := by
    rw [← startedInvalid_eq]
    rfl
  rw [run, startedCaptured_eq]
  clear_value s1
  subst stop
  rfl

end Sys2Proof.Proofs
end

section
/-! PROOFS. HALT (R107, R164, R177, R178), a broadcast that the device state does not accept (R174), and CLEAR (R179). -/

namespace Sys2Proof.Proofs

open Sys2Proof.Machine Sys2Proof.Laws

/-! ### What the endings of a HALT leave as it is -/

/-- What a tick, the closes and the endings of claps keep besides the contexts, the rows and the segments' ends. -/
structure RunKept (s t : State) : Prop where
  nextTake : t.pairing.nextTake = s.pairing.nextTake
  policy : t.pairing.policy = s.pairing.policy
  numbers : t.pairing.takes.map Take.number = s.pairing.takes.map Take.number
  nextSeq : t.log.nextSeq = s.log.nextSeq
  entries : t.log.entries.length = s.log.entries.length
  mgmt : t.mgmt = s.mgmt
  clock : t.clock = s.clock
  tables : t.tables = s.tables
  locate : t.locate = s.locate
  settings : t.settings = s.settings
  monitor : t.monitor = s.monitor
  lines : t.lines = s.lines
  paramRecord : t.paramRecord = s.paramRecord
  defaulted : t.defaulted = s.defaulted
  boot : t.boot = s.boot

theorem RunKept.refl (s : State) : RunKept s s :=
  ⟨rfl, rfl, rfl, rfl, rfl, rfl, rfl, rfl, rfl, rfl, rfl, rfl, rfl, rfl, rfl⟩

theorem RunKept.trans {s t u : State} (h : RunKept s t) (g : RunKept t u) : RunKept s u where
  nextTake := g.nextTake.trans h.nextTake
  policy := g.policy.trans h.policy
  numbers := g.numbers.trans h.numbers
  nextSeq := g.nextSeq.trans h.nextSeq
  entries := g.entries.trans h.entries
  mgmt := g.mgmt.trans h.mgmt
  clock := g.clock.trans h.clock
  tables := g.tables.trans h.tables
  locate := g.locate.trans h.locate
  settings := g.settings.trans h.settings
  monitor := g.monitor.trans h.monitor
  lines := g.lines.trans h.lines
  paramRecord := g.paramRecord.trans h.paramRecord
  defaulted := g.defaulted.trans h.defaulted
  boot := g.boot.trans h.boot

theorem drawn_kept (s : State) (n : Nat) : RunKept s { s with freeDraws := n } :=
  ⟨rfl, rfl, rfl, rfl, rfl, rfl, rfl, rfl, rfl, rfl, rfl, rfl, rfl, rfl, rfl⟩

theorem reloaded_kept (s : State) (x : TickGen) : RunKept s { s with tick := x } :=
  ⟨rfl, rfl, rfl, rfl, rfl, rfl, rfl, rfl, rfl, rfl, rfl, rfl, rfl, rfl, rfl⟩

theorem RunKept.foldl {α : Type} {f : State → α → State} (each : ∀ s a, RunKept s (f s a)) (l : List α) (s : State) :
    RunKept s (l.foldl f s) := by
  induction l generalizing s with
  | nil => exact .refl s
  | cons a l ih => exact (each s a).trans (ih (f s a))

theorem outputs_kept {s t : State} (outputs : OutputsOnly s t) : RunKept s t := by
  unfold OutputsOnly at outputs
  rw [outputs]
  exact ⟨rfl, rfl, rfl, rfl, rfl, rfl, rfl, rfl, rfl, rfl, rfl, rfl, rfl, rfl, rfl⟩

/-- Other takes of the same numbers, other claps and transients. -/
theorem takes_kept (s : State) (takes : List Take) (claps : List PendingClap) (held : List HeldTransient) (draws : Nat)
    (numbers : takes.map Take.number = s.pairing.takes.map Take.number) :
    RunKept s { s with
      freeDraws := draws, pairing := { s.pairing with takes := takes, claps := claps, held := held } } :=
  { RunKept.refl s with numbers := numbers }

theorem clapEnded_kept (s : State) (n : Nat) : RunKept s (s.clapEnded n) := by
  refine (takes_kept s _ _ s.pairing.held s.freeDraws ?_).trans (outputs_kept (raise_outputs _ _ _))
  rw [List.map_map]
  refine List.map_congr_left fun u _ => ?_
  simp only [Function.comp]
  split <;> rfl

theorem leftBy_number (slot : Fin 128) (gen : Nat) (t : Take) : (t.leftBy slot gen).number = t.number := by
  unfold Take.leftBy
  split <;> rfl

theorem segmentEnded_kept (s : State) (c : Context) (e : SegmentEnd) : RunKept s (s.segmentEnded c e) := by
  unfold State.segmentEnded
  split
  · exact .refl s
  · exact { RunKept.refl s with entries := List.length_map _ }

theorem setCtx_kept (s : State) (i : Fin 128) (c : Context) : RunKept s (s.setCtx i c) :=
  { RunKept.refl s with }

theorem contextClosed_kept (s : State) (i : Fin 128) (order : List Nat) : RunKept s (s.contextClosed i order) := by
  let ended := (s.segmentEnded (s.ctx i) ⟨(s.ctx i).lastCount, (s.ctx i).lastConverted⟩).setCtx i
    { s.ctx i with state := .closed }
  have marked : RunKept s { ended with
      freeDraws := s.freeDraws + 1
      pairing := { s.pairing with takes := s.pairing.takes.map (Take.leftBy i (s.ctx i).gen) } } := by
    have segment : RunKept s ended := (segmentEnded_kept s _ _).trans (setCtx_kept _ i _)
    refine { segment with nextTake := rfl, policy := rfl, numbers := ?_ }
    rw [List.map_map]
    exact List.map_congr_left fun u _ => leftBy_number i _ u
  refine (marked.trans (RunKept.foldl clapEnded_kept order _)).trans ?_
  exact takes_kept _ _ _ _ _ rfl

theorem closeContext_kept (s : State) (i : Fin 128) : RunKept s (closeContext i s) := by
  obtain ⟨order, -, closed⟩ := closeContext_eq i s
  rw [closed]
  exact contextClosed_kept s i order

theorem closeAll_kept (s : State) : RunKept s (closeAll s) :=
  (drawn_kept s _).trans (RunKept.foldl (fun t i => closeContext_kept t i) _ _)

theorem endClaps_kept (ns : List Nat) (s : State) : RunKept s (endClaps ns s) := by
  obtain ⟨order, -, ended⟩ := endClaps_eq ns s
  rw [ended]
  exact (drawn_kept s _).trans (RunKept.foldl clapEnded_kept order _)

theorem pairingHalt_kept (s : State) : RunKept s (pairingHalt s) :=
  (endClaps_kept _ s).trans (takes_kept _ _ _ _ _ rfl)

theorem makeTick_kept (s : State) : RunKept s (makeTick s) := by
  unfold makeTick
  split
  · exact (reloaded_kept s _).trans
      ((outputs_kept (joinTick_outputs _ _ _)).trans (outputs_kept (joinTick_outputs _ _ _)))
  · exact .refl s

theorem makeTick_contexts (s : State) : (makeTick s).contexts = s.contexts := by
  unfold makeTick
  split
  · simp
  · rfl

/-! ### The contexts after a HALT -/

theorem closes_ctx (l : List (Fin 128)) (s : State) (j : Fin 128) :
    (l.foldl (fun u i => closeContext i u) s).ctx j =
      if j ∈ l then { s.ctx j with state := .closed } else s.ctx j := by
  induction l generalizing s with
  | nil => simp
  | cons i l ih =>
    rw [List.foldl_cons, ih, closeContext_ctx]
    by_cases same : i = j
    · subst same
      simp
    · simp [same, Ne.symm same]

/-- Every context CLOSED, and otherwise as it was (R107). -/
theorem closeAll_ctx (s : State) (j : Fin 128) : (closeAll s).ctx j = { s.ctx j with state := .closed } := by
  unfold closeAll
  rw [closes_ctx]
  split
  · rfl
  · next other =>
    have closed : (s.ctx j).state = .closed := by
      rw [(inAnyOrder_perm _ _ _).mem_iff] at other
      simpa [openSlots, allSlots, isOpen_iff] using other
    change s.ctx j = _
    rw [← closed]

/-! ### HALT -/

/-- The state of a HALT in RUNNING but for CONFIGURING. -/
def haltWorked (s : State) : State := pairingHalt (closeAll (makeTick s))

theorem haltRunning_eq (s : State) : haltRunning s = { haltWorked s with
    mgmt := { s.mgmt with device := .configuring }, clock := { s.clock with hold := 0 } } := by
  have kept : RunKept s (haltWorked s) :=
    ((makeTick_kept s).trans (closeAll_kept _)).trans (pairingHalt_kept _)
  change { haltWorked s with
    mgmt := { (haltWorked s).mgmt with device := .configuring }
    clock := { (haltWorked s).clock with hold := 0 } } = _
  rw [kept.mgmt, kept.clock]

theorem actHalt_running {r : Request} {s : State} (run : s.mgmt.device = .running) :
    actHalt r s = ⟨haltRunning s, .ok, [[]]⟩ := by
  rw [actHalt, if_neg (by simp [run])]
  rfl

/-- The open contexts of a state, as they are closed. -/
theorem openSlots_eq (s : State) :
    openSlots s = (List.finRange 128).filter fun i => decide ((s.ctx i).state ≠ .closed) :=
  List.filter_congr fun i _ => by rw [Bool.eq_iff_iff, isOpen_iff, decide_eq_true_eq]

/-- The work of a HALT, spelled out: the closes one after the other, then the claps that remain (R107, R164). -/
theorem haltWorked_eq (s : State) :
    ∃ (slots : List (Fin 128)) (orders : Fin 128 → List Nat) (rest : List Nat),
      let closed (l : List (Fin 128)) : State :=
        l.foldl (fun u i => u.contextClosed i (orders i)) { makeTick s with freeDraws := (makeTick s).freeDraws + 1 }
      let v := closed slots
      let u := rest.foldl State.clapEnded { v with freeDraws := v.freeDraws + 1 }
      slots.Perm ((List.finRange 128).filter fun i => decide ((s.ctx i).state ≠ .closed)) ∧
      (∀ before i after, slots = before ++ i :: after →
        (orders i).Perm ((closed before).takesWaitingFor i (s.ctx i).gen)) ∧
      rest.Perm (v.pairing.claps.map PendingClap.take) ∧
      haltWorked s = { u with pairing := { u.pairing with held := [] } } := by
  let ticked := makeTick s
  have contexts (i : Fin 128) : ticked.ctx i = s.ctx i := by
    unfold State.ctx
    rw [show ticked.contexts = _ from makeTick_contexts s]
  let slots := inAnyOrder ticked.freeDraws (fun i : Fin 128 => (i : Nat)) (openSlots ticked)
  have perm : slots.Perm ((List.finRange 128).filter fun i => decide ((s.ctx i).state ≠ .closed)) := by
    refine (inAnyOrder_perm _ _ _).trans (List.Perm.of_eq ?_)
    simp only [openSlots_eq, contexts]
  have distinct : slots.Nodup := perm.nodup_iff.mpr ((List.nodup_finRange 128).filter _)
  obtain ⟨orders, closes, each, -, -, -⟩ :=
    closeContexts_eq slots distinct { ticked with freeDraws := ticked.freeDraws + 1 }
  obtain ⟨rest, restPerm, ends⟩ :=
    endClaps_eq ((closeAll ticked).pairing.claps.map PendingClap.take) (closeAll ticked)
  have closedAll : closeAll ticked = slots.foldl (fun u i => u.contextClosed i (orders i))
      { ticked with freeDraws := ticked.freeDraws + 1 } := closes
  rw [closedAll] at restPerm ends
  refine ⟨slots, orders, rest, perm, fun before i after split => ?_, restPerm, ?_⟩
  · have own := each before i after split
    rwa [show State.ctx { ticked with freeDraws := ticked.freeDraws + 1 } i = s.ctx i from contexts i] at own
  · change pairingHalt (closeAll ticked) = _
    rw [closedAll, pairingHalt, ends]
    rfl

/-- Settles O58: the tick, the closes and the endings in their turn, then CONFIGURING with PT frozen. -/
theorem haltEndsTheRun : Obligations.HaltEndsTheRun := by
  refine ⟨fun s r stands kind => ⟨fun starting => ?_, fun s0 run tick => ?_, fun run => ?_⟩,
    fun s r c k stands broadcast command kind states => ?_⟩
  · refine halt_handles.takes stands kind (by simp [inStartingRunning, starting]) ?_
    rw [actHalt, if_pos starting]
    rfl
  · have ticked : makeTick s = s0 := Host.Outcome.next.inj ((exec_alive stands.1).symm.trans tick)
    obtain ⟨slots, orders, rest, perm, each, restPerm, worked⟩ := haltWorked_eq s
    rw [ticked] at each restPerm worked
    refine ⟨slots, orders, rest, perm, each, restPerm, ?_⟩
    refine halt_handles.takes stands kind (by simp [inStartingRunning, run]) ((actHalt_running run).trans ?_)
    rw [haltRunning_eq, worked]
  · have kept : RunKept s (haltWorked s) :=
      ((makeTick_kept s).trans (closeAll_kept _)).trans (pairingHalt_kept _)
    have claps : (haltWorked s).pairing.claps = [] := (pairingHalt_empty _).1
    have held : (haltWorked s).pairing.held = [] := (pairingHalt_empty _).2
    have closed (i : Fin 128) : (haltWorked s).ctx i = { s.ctx i with state := .closed } := by
      have each := closeAll_ctx (makeTick s) i
      unfold State.ctx at each ⊢
      rwa [makeTick_contexts, ← pairingHalt_contexts] at each
    refine ⟨haltRunning s, halt_handles.takes stands kind (by simp [inStartingRunning, run]) (actHalt_running run), ?_⟩
    rw [haltRunning_eq]
    generalize haltWorked s = worked at kept claps held closed ⊢
    exact ⟨rfl, rfl, closed, claps, held, kept.nextTake, kept.policy, kept.numbers, kept.nextSeq, kept.entries,
      kept.tables, kept.locate, kept.settings, kept.monitor, kept.lines, kept.paramRecord, kept.defaulted, kept.boot⟩
  · have discards {served : DeviceState → Bool} {act : Request → State → Verdict} (handles : Handles c k served act) :
        exec c s = .next { s with mgmt := { s.mgmt with inbox := s.mgmt.inbox.tail } } := by
      rw [handles.runs, whenAlive, if_pos stands.1,
        beginHandling_discards stands broadcast kind ((handles.serves _).trans states)]
    simp only [List.mem_cons, Prod.mk.injEq, List.not_mem_nil, or_false] at command
    obtain ⟨rfl, rfl⟩ | ⟨rfl, rfl⟩ | ⟨rfl, rfl⟩ := command
    · exact discards clockApply_handles
    · exact discards run_handles
    · exact discards halt_handles

/-! ### CLEAR -/

/-- Settles O59: the locate queue ends first, and what CLEAR keeps is the stopped state's. -/
theorem clearKeepsOnlyTheLink : Obligations.ClearKeepsOnlyTheLink := by
  intro s r waits kind device due
  have serves : clearServed s.mgmt.device = true := by
    rcases device with h | h | h <;> simp [clearServed, inStartingRunning, h]
  have still : makeTick s = s := by rw [makeTick, if_neg (by simp [due])]
  refine clear_handles.accepts waits kind serves ?_
  obtain ⟨events, faultn, portS, portP, stop⟩ : ∃ events faultn portS portP, s.stopped = { s with
      events := events, faultn := faultn, portS := portS, portP := portP
      locate := { queue := [], service := none } } := ⟨_, _, _, _, stopped_eq s⟩
  rw [actClear, still, ite_self, stopLocate_eq, stop]
  rfl

end Sys2Proof.Proofs
end

section
/-! PROOFS. What the locate and take requests answer (R129, R132 to R138). -/

namespace Sys2Proof.Proofs

open Sys2Proof.Machine Sys2Proof.Laws

/-! ### The beginning of a service (R131) -/

/-- The command of a locate or take request begins the service of its kind. -/
structure Services (c : Instr) (k : Nat) (answer : Request → State → List (List Byte)) : Prop where
  runs : ∀ s, exec c s = whenAlive (beginService k answer) s

theorem locateTime_services : Services .locateTime 26
    fun r s => locateKey r s fun slot => answerTime r slot (r.arg 2 6) s := ⟨fun _ => rfl⟩
theorem locateCount_services : Services .locateCount 27
    fun r s => locateKey r s fun slot => answerCount r slot (r.arg 2 5) s := ⟨fun _ => rfl⟩
theorem takeQuery_services : Services .takeQuery 28
    fun r s => answerTake r (s.takeNumbered (r.arg 0 2)) := ⟨fun _ => rfl⟩
theorem takeFind_services : Services .takeFind 29 fun r s => answerTake r
    (newestTake s fun t => t.scene == field r.args 0 6 && t.codeNumber == r.arg 6 2) := ⟨fun _ => rfl⟩
theorem takeAt_services : Services .takeAt 30
    fun r s => answerTake r (newestTake s fun t => decide (t.clapPt ≤ r.arg 0 6)) := ⟨fun _ => rfl⟩

section Serving

variable {c : Instr} {k : Nat} {answer : Request → State → List (List Byte)} {s : State} {r : Request}
  {st : ReplyStatus} {data : List (List Byte)}

/-- A locate request's answer is fixed, and nothing else changes (R131). -/
theorem Services.serves (services : Services c k answer) (waits : AwaitsLocate s r) (kind : r.kind = k)
    (answered : answer r s = data.map (replyPayload r st)) : exec c s = .next (s.serve r st data) := by
  rw [services.runs, whenAlive, if_pos waits.1, beginService_serves waits kind, answered]
  rfl

/-- A locate request too short for its arguments is answered RANGE (R132). -/
theorem Services.short (services : Services c k answer) (alive : s.alive = true) (free : s.locate.service = none)
    (next : s.locate.queue.head? = some r) (kind : r.kind = k) (short : r.args.length < argNeed k) :
    exec c s = .next (s.serve r .range [[]]) := by
  obtain ⟨rest, queue⟩ := List.head?_eq_some_iff.mp next
  rw [services.runs, whenAlive, if_pos alive]
  simp only [beginService, free, queue, kind, short, if_true]
  rw [← queue]
  rfl

end Serving

/-! ### The key of a locate request (R132) -/

theorem locateKey_bad {r : Request} {s : State} (found : Fin 128 → List (List Byte)) (bad : r.key 0 = none) :
    locateKey r s found = oneCell r .range [] := by
  simp only [locateKey, bad]

theorem locateKey_absent {r : Request} {s : State} {k : Key} (found : Fin 128 → List (List Byte))
    (key : r.key 0 = some k) (absent : s.lookup k = none) : locateKey r s found = oneCell r .noSource [] := by
  simp only [locateKey, key, absent]

theorem locateKey_found {r : Request} {s : State} {k : Key} {slot : Fin 128} (found : Fin 128 → List (List Byte))
    (key : r.key 0 = some k) (mapped : s.lookup k = some slot) : locateKey r s found = found slot := by
  simp only [locateKey, key, mapped]

/-! ### Answers of a locate request (R133 to R136) -/

theorem entryData_eq (e : LogEntry) : entryData e =
    beBytes 4 e.seq ++ [Config.unstatedCode .anchorReason (reasonNumber e.reason)] ++ beBytes 4 e.gen ++
      signedBytes 2 e.adjust ++ [Config.unstatedCode .segmentOpen (if e.ending = none then 1 else 0)] := by
  unfold entryData entryName
  cases e.ending <;> rfl

section Located

variable {r : Request} {s : State} {slot : Fin 128} {h c : Nat} {e : LogEntry}

theorem answerTime_future (future : s.clock.pt < h) : answerTime r slot h s = oneCell r .future [] :=
  if_pos future

theorem answerTime_uncovered (past : h ≤ s.clock.pt) (none : newestAtPt s slot h = none) :
    answerTime r slot h s = oneCell r (uncoveredPt s slot h) [] := by
  simp only [answerTime, Nat.not_lt.mpr past, if_false, none]

theorem answerTime_outOfRange (past : h ≤ s.clock.pt) (newest : newestAtPt s slot h = some e)
    (out : reverse (entryConversion s e) (ptHeld s) h = none) :
    answerTime r slot h s = oneCell r .range (entryName e) := by
  simp only [answerTime, Nat.not_lt.mpr past, if_false, newest, out]

theorem answerTime_located {v : Converted} (past : h ≤ s.clock.pt) (newest : newestAtPt s slot h = some e)
    (value : reverse (entryConversion s e) (ptHeld s) h = some v) :
    answerTime r slot h s = oneCell r (convertedStatus v) (beBytes 5 v.value ++ entryData e) := by
  simp only [answerTime, Nat.not_lt.mpr past, if_false, newest, value]

theorem answerCount_uncovered (none : newestAtCount s slot c = none) : answerCount r slot c s =
    oneCell r (if (s.ctx slot).trimmed then .expired else .notCovered) [] := by
  simp only [answerCount, none]

theorem answerCount_located (newest : newestAtCount s slot c = some e) : answerCount r slot c s =
    let v := forward (entryConversion s e) (ptHeld s) c
    oneCell r (convertedStatus v) (beBytes 6 v.value ++ houseLabelBytes s v.value ++ entryData e) := by
  simp only [answerCount, newest]

end Located

/-! ### Takes (R137, R138) -/

theorem newestTake_eq (s : State) (p : Take → Bool) : newestTake s p = s.pairing.takes.reverse.find? p := by
  rw [newestTake, ← List.head?_reverse, ← List.filter_reverse, List.head?_filter]

theorem answerTake_none (r : Request) : answerTake r none = [[]].map (replyPayload r .noEntry) := rfl

/-- A take's cells: the take, and its rows three to a cell (R138). -/
theorem answerTake_some (r : Request) (t : Take) : answerTake r (some t) =
    (([0, byteOf ((t.rows.length + 2) / 3 + 1)] ++ takeBytes t) ::
      (List.range ((t.rows.length + 2) / 3)).map fun j =>
        byteOf (j + 1) :: (((t.rows.drop (3 * j)).take 3).map rowBytes).flatten).map (replyPayload r .ok) := by
  rw [← withPartHeaders_cons, ← rowCells_eq]
  rfl

/-- The first cell of a take reply, field by field (R138). -/
theorem takeCell_eq (header : List Byte) (t : Take) : header ++ takeBytes t =
    header ++ beBytes 2 t.number ++ t.scene ++ beBytes 2 t.codeNumber ++ [byteOf t.group, byteOf t.slate] ++
      beBytes 6 t.clapPt ++ [flagByte t.labelDiff.isSome] ++ signedBytes 3 (t.labelDiff.getD 0) ++
      [Config.unstatedCode .takeStatus (if t.isOpen then 0 else 1), byteOf t.omitted, byteOf t.rows.length] := by
  simp only [takeBytes, List.append_assoc]

section Takes

variable {c : Instr} {k : Nat} {choose : Request → State → Option Take} {s : State} {r : Request}

theorem Services.servesNoTake (services : Services c k fun r s => answerTake r (choose r s))
    (waits : AwaitsLocate s r) (kind : r.kind = k) (chosen : choose r s = none) :
    exec c s = .next (s.serve r .noEntry [[]]) :=
  services.serves waits kind (by rw [chosen, answerTake_none])

theorem Services.servesTake {t : Take} (services : Services c k fun r s => answerTake r (choose r s))
    (waits : AwaitsLocate s r) (kind : r.kind = k) (chosen : choose r s = some t) :
    exec c s = .next (s.serve r .ok (([0, byteOf ((t.rows.length + 2) / 3 + 1)] ++ takeBytes t) ::
      (List.range ((t.rows.length + 2) / 3)).map fun j =>
        byteOf (j + 1) :: (((t.rows.drop (3 * j)).take 3).map rowBytes).flatten)) :=
  services.serves waits kind (by rw [chosen, answerTake_some])

end Takes

/-- Settles O60: the key first, then what the Log covers; of the takes the newest that meets the condition. -/
theorem locateRequestsFixTheirAnswers : Obligations.LocateRequestsFixTheirAnswers := by
  refine ⟨fun s r c k alive free next command kind short => ?_, fun s r waits => ?_⟩
  · simp only [List.mem_cons, Prod.mk.injEq, List.not_mem_nil, or_false] at command
    obtain ⟨rfl, rfl⟩ | ⟨rfl, rfl⟩ | ⟨rfl, rfl⟩ | ⟨rfl, rfl⟩ | ⟨rfl, rfl⟩ := command
    · exact locateTime_services.short alive free next kind short
    · exact locateCount_services.short alive free next kind short
    · exact takeQuery_services.short alive free next kind short
    · exact takeFind_services.short alive free next kind short
    · exact takeAt_services.short alive free next kind short
  intro p held conversion named data
  have data_eq (e : LogEntry) : entryData e = data e := entryData_eq e
  refine ⟨fun k slot key mapped => ⟨?_, ?_⟩, fun k key absent => ⟨fun kind => ?_, fun kind => ?_⟩,
    fun bad => ⟨fun kind => ?_, fun kind => ?_⟩, ?_⟩
  · intro kind h
    refine ⟨fun future => ?_, fun past uncovered => ?_, fun before e after past entries own covers last =>
      ⟨fun out => ?_, fun v value => ?_⟩⟩
    · exact locateTime_services.serves waits kind ((locateKey_found _ key mapped).trans (answerTime_future future))
    · intro early
      refine locateTime_services.serves waits kind ((locateKey_found _ key mapped).trans
        ((answerTime_uncovered past ((newestAtPt_eq s slot h).1 uncovered)).trans ?_))
      have same : uncoveredPt s slot h = if (s.ctx slot).trimmed && early then .expired else .notCovered := by
        have lost (l : List LogEntry) : (match l.head? with | some e => decide (h < e.pt0) | none => true) =
            (match l with | [] => true | e :: _ => decide (h < e.pt0)) := by
          cases l <;> rfl
        exact congrArg (fun b : Bool => if (s.ctx slot).trimmed && b then ReplyStatus.expired else .notCovered)
          (lost (s.log.entries.filter fun e => e.slot == slot))
      rw [same]
      rfl
    · exact locateTime_services.serves waits kind ((locateKey_found _ key mapped).trans
        (answerTime_outOfRange past ((newestAtPt_eq s slot h).2 before e after entries own covers last) out))
    · refine locateTime_services.serves waits kind ((locateKey_found _ key mapped).trans
        ((answerTime_located past ((newestAtPt_eq s slot h).2 before e after entries own covers last) value).trans ?_))
      rw [data_eq]
      rfl
  · intro kind c
    refine ⟨fun uncovered => ?_, fun before e after entries own covers last => ?_⟩
    · exact locateCount_services.serves waits kind ((locateKey_found _ key mapped).trans
        (answerCount_uncovered ((newestAtCount_eq s slot c).1 uncovered)))
    · intro v l
      refine locateCount_services.serves waits kind ((locateKey_found _ key mapped).trans
        ((answerCount_located ((newestAtCount_eq s slot c).2 before e after entries own covers last)).trans ?_))
      dsimp only
      rw [data_eq]
      rfl
  · exact locateTime_services.serves waits kind (locateKey_absent _ key absent)
  · exact locateCount_services.serves waits kind (locateKey_absent _ key absent)
  · exact locateTime_services.serves waits kind (locateKey_bad _ (key_bad (by unfold Request.BadKey; omega)))
  · exact locateCount_services.serves waits kind (locateKey_bad _ (key_bad (by unfold Request.BadKey; omega)))
  · intro row answered
    have rows : rowBytes = row := rfl
    have answer {c : Instr} {k : Nat} {choose : Request → State → Option Take} (kind : r.kind = k)
        (services : Services c k fun r s => answerTake r (choose r s)) : exec c s = .next (answered (choose r s)) := by
      cases chosen : choose r s with
      | none => exact services.servesNoTake waits kind chosen
      | some t =>
        rw [services.servesTake waits kind chosen, takeCell_eq, rows]
        rfl
    refine ⟨fun kind => answer kind takeQuery_services, fun kind => ?_, fun kind => ?_⟩
    · rw [← newestTake_eq]
      exact answer kind takeFind_services
    · rw [← newestTake_eq]
      exact answer kind takeAt_services

end Sys2Proof.Proofs
end
